-- ==== Sys2Proof/Word.lean ====
section
/-! DEFINITION. The word types of the block's ports (10_state R27, R28; 00_scope R14: bit 0 is the least
significant bit of every value). -/

namespace Sys2Proof

/-- The value of one 64-bit port: an operand A, B, C or a result R0, R1, R2 (R25, R27). -/
abbrev Word64 := BitVec 64

/-- The 32-bit operation word OP (R50). -/
abbrev OpWord := BitVec 32

end Sys2Proof
end

