-- ==== Sys2Proof/Config.lean ====
section
/-! DEFINITION. What one build of the block fixes (00_scope R9 to R12) and the values the spec leaves free.
Everything `opaque` here has no body: no proof can see its value. -/

namespace Sys2Proof

/-- CONTRACT_MODE (R9): what a contract violation does. -/
inductive ContractMode where
  /-- A violation is answered FAULT and halts the unit until reset (R152 to R154). -/
  | checked
  /-- A violation is answered OK with any value on the result port (R155). -/
  | unchecked
  deriving DecidableEq, Repr, Inhabited

/-- IMPL_PATH (R12): the datapath realization of scatter and gather. It is not observable, so the machine does
not read it; `Machine/Portable.lean` holds both realizations. -/
inductive ImplPath where
  | native
  | portable
  deriving DecidableEq, Repr, Inhabited

/-- The build parameters of one instance (R30). QDEPTH and LATENCY are at least 1 (R10), so each is held as how
much it exceeds 1. DESIGN CHOICE (log 1): safe, since every QDEPTH and LATENCY the spec allows is expressible. -/
structure Build where
  contractMode : ContractMode
  /-- QDEPTH - 1. -/
  extraSlots : Nat
  /-- LATENCY - 1. -/
  extraCycles : Nat
  deriving DecidableEq, Repr, Inhabited

/-- QDEPTH (R10): how many requests the unit can hold accepted and not yet answered. -/
def Build.qdepth (b : Build) : Nat := b.extraSlots + 1

/-- LATENCY (R10): the least number of clock cycles from acceptance to delivery. -/
def Build.latency (b : Build) : Nat := b.extraCycles + 1

/-- The identity string of this operation set (R2). No operation reads it. -/
def Config.identity : String := "MCB-r1-juno-v7"

/-- The build the instance has at reset: the spec leaves the parameters OPEN (R9, R10; D12, D19). Log 1. -/
opaque Config.build : Build

/-- The bound on the cycles from LATENCY to availability: finite, fixed by the implementation, not given
(R180; I22). Log 7. -/
opaque Config.slackBound : Nat

/-- How many cycles beyond LATENCY the response of the n-th accepted request takes to become available: a free
value within the bound (R180). Log 7. -/
opaque Config.responseSlack : Nat → Fin (Config.slackBound + 1)

/-- `any_N()` of R15 and R155: the value an UNCHECKED violation leaves on R0, a free value per accepted request.
Log 8. -/
opaque Config.anyResult : Nat → Word64

/-- What `rsp_status` carries at the n-th edge while `rsp_valid` = 0: unspecified (R178; I18). Log 9. -/
opaque Config.idleStatus : Nat → BitVec 2

/-- What `rsp_r0`, `rsp_r1` and `rsp_r2` carry at the n-th edge while `rsp_valid` = 0: unspecified (R178; I18).
Log 9. -/
opaque Config.idleResult : Nat → Fin 3 → Word64

end Sys2Proof
end

