-- ==== Sys2Proof/Syntax.lean ====
section
/-! DEFINITION. The operation set: one constructor per row of spec/opcode_table.json (30_encoding R61), and the
encoding fields each row stands for. -/

namespace Sys2Proof

/-- Code width W (R6, R52). -/
inductive Width where
  | w32
  | w64
  deriving DecidableEq, Repr

/-- The number of bits of a width (R52). -/
def Width.bits : Width → Nat
  | .w32 => 32
  | .w64 => 64

/-- Dimension D (R7, R53). -/
inductive Dim where
  | d2
  | d3
  deriving DecidableEq, Repr

/-- The number of axes of a dimension (R53). -/
def Dim.axes : Dim → Nat
  | .d2 => 2
  | .d3 => 3

/-- Float type T (R8, R55). Every integer operation carries T = 0, the code of binary32. -/
inductive FloatType where
  | binary32
  | binary64
  deriving DecidableEq, Repr

/-- Operation class, the meaning of OPC (R51). -/
inductive OpClass where
  | mconst
  | bscat
  | bgath
  | menc
  | mdec
  | qnt
  | dqnt
  | fenc
  | fdec
  deriving DecidableEq, Repr

/-- The meaningful fields of an operation word (R50): OPC, W, D, AX and T. RES is zero in every legal word (R56). -/
structure Fields where
  cls : OpClass
  w : Width
  d : Dim
  ax : BitVec 2
  t : FloatType
  deriving DecidableEq, Repr

/-- The 62 operations of R61, in the table's order. The mnemonic of R64 is the constructor's name with dots. -/
inductive Instr where
  | mconstD2W32A0
  | mconstD2W32A1
  | mconstD2W64A0
  | mconstD2W64A1
  | mconstD3W32A0
  | mconstD3W32A1
  | mconstD3W32A2
  | mconstD3W64A0
  | mconstD3W64A1
  | mconstD3W64A2
  | bscatD2W32A0
  | bscatD2W32A1
  | bscatD2W64A0
  | bscatD2W64A1
  | bscatD3W32A0
  | bscatD3W32A1
  | bscatD3W32A2
  | bscatD3W64A0
  | bscatD3W64A1
  | bscatD3W64A2
  | bgathD2W32A0
  | bgathD2W32A1
  | bgathD2W64A0
  | bgathD2W64A1
  | bgathD3W32A0
  | bgathD3W32A1
  | bgathD3W32A2
  | bgathD3W64A0
  | bgathD3W64A1
  | bgathD3W64A2
  | menc2W32
  | menc2W64
  | menc3W32
  | menc3W64
  | mdec2W32
  | mdec2W64
  | mdec3W32
  | mdec3W64
  | qntD2F32W32
  | qntD3F32W32
  | qntD2F64W32
  | qntD2F64W64
  | qntD3F64W32
  | qntD3F64W64
  | dqntD2F32W32
  | dqntD3F32W32
  | dqntD2F64W32
  | dqntD2F64W64
  | dqntD3F64W32
  | dqntD3F64W64
  | fenc2F32W32
  | fenc3F32W32
  | fenc2F64W32
  | fenc2F64W64
  | fenc3F64W32
  | fenc3F64W64
  | fdec2F32W32
  | fdec3F32W32
  | fdec2F64W32
  | fdec2F64W64
  | fdec3F64W32
  | fdec3F64W64
  deriving DecidableEq, Repr

/-- The field values of each row of R61: class, W, D, AX, T. -/
def Instr.fields : Instr → Fields
  | .mconstD2W32A0 => ⟨.mconst, .w32, .d2, 0, .binary32⟩
  | .mconstD2W32A1 => ⟨.mconst, .w32, .d2, 1, .binary32⟩
  | .mconstD2W64A0 => ⟨.mconst, .w64, .d2, 0, .binary32⟩
  | .mconstD2W64A1 => ⟨.mconst, .w64, .d2, 1, .binary32⟩
  | .mconstD3W32A0 => ⟨.mconst, .w32, .d3, 0, .binary32⟩
  | .mconstD3W32A1 => ⟨.mconst, .w32, .d3, 1, .binary32⟩
  | .mconstD3W32A2 => ⟨.mconst, .w32, .d3, 2, .binary32⟩
  | .mconstD3W64A0 => ⟨.mconst, .w64, .d3, 0, .binary32⟩
  | .mconstD3W64A1 => ⟨.mconst, .w64, .d3, 1, .binary32⟩
  | .mconstD3W64A2 => ⟨.mconst, .w64, .d3, 2, .binary32⟩
  | .bscatD2W32A0 => ⟨.bscat, .w32, .d2, 0, .binary32⟩
  | .bscatD2W32A1 => ⟨.bscat, .w32, .d2, 1, .binary32⟩
  | .bscatD2W64A0 => ⟨.bscat, .w64, .d2, 0, .binary32⟩
  | .bscatD2W64A1 => ⟨.bscat, .w64, .d2, 1, .binary32⟩
  | .bscatD3W32A0 => ⟨.bscat, .w32, .d3, 0, .binary32⟩
  | .bscatD3W32A1 => ⟨.bscat, .w32, .d3, 1, .binary32⟩
  | .bscatD3W32A2 => ⟨.bscat, .w32, .d3, 2, .binary32⟩
  | .bscatD3W64A0 => ⟨.bscat, .w64, .d3, 0, .binary32⟩
  | .bscatD3W64A1 => ⟨.bscat, .w64, .d3, 1, .binary32⟩
  | .bscatD3W64A2 => ⟨.bscat, .w64, .d3, 2, .binary32⟩
  | .bgathD2W32A0 => ⟨.bgath, .w32, .d2, 0, .binary32⟩
  | .bgathD2W32A1 => ⟨.bgath, .w32, .d2, 1, .binary32⟩
  | .bgathD2W64A0 => ⟨.bgath, .w64, .d2, 0, .binary32⟩
  | .bgathD2W64A1 => ⟨.bgath, .w64, .d2, 1, .binary32⟩
  | .bgathD3W32A0 => ⟨.bgath, .w32, .d3, 0, .binary32⟩
  | .bgathD3W32A1 => ⟨.bgath, .w32, .d3, 1, .binary32⟩
  | .bgathD3W32A2 => ⟨.bgath, .w32, .d3, 2, .binary32⟩
  | .bgathD3W64A0 => ⟨.bgath, .w64, .d3, 0, .binary32⟩
  | .bgathD3W64A1 => ⟨.bgath, .w64, .d3, 1, .binary32⟩
  | .bgathD3W64A2 => ⟨.bgath, .w64, .d3, 2, .binary32⟩
  | .menc2W32 => ⟨.menc, .w32, .d2, 0, .binary32⟩
  | .menc2W64 => ⟨.menc, .w64, .d2, 0, .binary32⟩
  | .menc3W32 => ⟨.menc, .w32, .d3, 0, .binary32⟩
  | .menc3W64 => ⟨.menc, .w64, .d3, 0, .binary32⟩
  | .mdec2W32 => ⟨.mdec, .w32, .d2, 0, .binary32⟩
  | .mdec2W64 => ⟨.mdec, .w64, .d2, 0, .binary32⟩
  | .mdec3W32 => ⟨.mdec, .w32, .d3, 0, .binary32⟩
  | .mdec3W64 => ⟨.mdec, .w64, .d3, 0, .binary32⟩
  | .qntD2F32W32 => ⟨.qnt, .w32, .d2, 0, .binary32⟩
  | .qntD3F32W32 => ⟨.qnt, .w32, .d3, 0, .binary32⟩
  | .qntD2F64W32 => ⟨.qnt, .w32, .d2, 0, .binary64⟩
  | .qntD2F64W64 => ⟨.qnt, .w64, .d2, 0, .binary64⟩
  | .qntD3F64W32 => ⟨.qnt, .w32, .d3, 0, .binary64⟩
  | .qntD3F64W64 => ⟨.qnt, .w64, .d3, 0, .binary64⟩
  | .dqntD2F32W32 => ⟨.dqnt, .w32, .d2, 0, .binary32⟩
  | .dqntD3F32W32 => ⟨.dqnt, .w32, .d3, 0, .binary32⟩
  | .dqntD2F64W32 => ⟨.dqnt, .w32, .d2, 0, .binary64⟩
  | .dqntD2F64W64 => ⟨.dqnt, .w64, .d2, 0, .binary64⟩
  | .dqntD3F64W32 => ⟨.dqnt, .w32, .d3, 0, .binary64⟩
  | .dqntD3F64W64 => ⟨.dqnt, .w64, .d3, 0, .binary64⟩
  | .fenc2F32W32 => ⟨.fenc, .w32, .d2, 0, .binary32⟩
  | .fenc3F32W32 => ⟨.fenc, .w32, .d3, 0, .binary32⟩
  | .fenc2F64W32 => ⟨.fenc, .w32, .d2, 0, .binary64⟩
  | .fenc2F64W64 => ⟨.fenc, .w64, .d2, 0, .binary64⟩
  | .fenc3F64W32 => ⟨.fenc, .w32, .d3, 0, .binary64⟩
  | .fenc3F64W64 => ⟨.fenc, .w64, .d3, 0, .binary64⟩
  | .fdec2F32W32 => ⟨.fdec, .w32, .d2, 0, .binary32⟩
  | .fdec3F32W32 => ⟨.fdec, .w32, .d3, 0, .binary32⟩
  | .fdec2F64W32 => ⟨.fdec, .w32, .d2, 0, .binary64⟩
  | .fdec2F64W64 => ⟨.fdec, .w64, .d2, 0, .binary64⟩
  | .fdec3F64W32 => ⟨.fdec, .w32, .d3, 0, .binary64⟩
  | .fdec3F64W64 => ⟨.fdec, .w64, .d3, 0, .binary64⟩

/-- The rows of class MCONST (R61). -/
def Instr.mconstRows : List Instr :=
  [.mconstD2W32A0, .mconstD2W32A1, .mconstD2W64A0, .mconstD2W64A1, .mconstD3W32A0, .mconstD3W32A1, .mconstD3W32A2, .mconstD3W64A0, .mconstD3W64A1, .mconstD3W64A2]

/-- The rows of class BSCAT (R61). -/
def Instr.bscatRows : List Instr :=
  [.bscatD2W32A0, .bscatD2W32A1, .bscatD2W64A0, .bscatD2W64A1, .bscatD3W32A0, .bscatD3W32A1, .bscatD3W32A2, .bscatD3W64A0, .bscatD3W64A1, .bscatD3W64A2]

/-- The rows of class BGATH (R61). -/
def Instr.bgathRows : List Instr :=
  [.bgathD2W32A0, .bgathD2W32A1, .bgathD2W64A0, .bgathD2W64A1, .bgathD3W32A0, .bgathD3W32A1, .bgathD3W32A2, .bgathD3W64A0, .bgathD3W64A1, .bgathD3W64A2]

/-- The rows of class MENC (R61). -/
def Instr.mencRows : List Instr :=
  [.menc2W32, .menc2W64, .menc3W32, .menc3W64]

/-- The rows of class MDEC (R61). -/
def Instr.mdecRows : List Instr :=
  [.mdec2W32, .mdec2W64, .mdec3W32, .mdec3W64]

/-- The rows of class QNT (R61). -/
def Instr.qntRows : List Instr :=
  [.qntD2F32W32, .qntD3F32W32, .qntD2F64W32, .qntD2F64W64, .qntD3F64W32, .qntD3F64W64]

/-- The rows of class DQNT (R61). -/
def Instr.dqntRows : List Instr :=
  [.dqntD2F32W32, .dqntD3F32W32, .dqntD2F64W32, .dqntD2F64W64, .dqntD3F64W32, .dqntD3F64W64]

/-- The rows of class FENC (R61). -/
def Instr.fencRows : List Instr :=
  [.fenc2F32W32, .fenc3F32W32, .fenc2F64W32, .fenc2F64W64, .fenc3F64W32, .fenc3F64W64]

/-- The rows of class FDEC (R61). -/
def Instr.fdecRows : List Instr :=
  [.fdec2F32W32, .fdec3F32W32, .fdec2F64W32, .fdec2F64W64, .fdec3F64W32, .fdec3F64W64]

/-- All rows of R61. -/
def Instr.all : List Instr :=
  Instr.mconstRows ++ Instr.bscatRows ++ Instr.bgathRows ++ Instr.mencRows ++ Instr.mdecRows
    ++ Instr.qntRows ++ Instr.dqntRows ++ Instr.fencRows ++ Instr.fdecRows

end Sys2Proof
end

