-- ==== Sys2Proof/Machine/State.lean ====
section
/-! DEFINITION. The state of one instance (10_state R22 to R34), the reasons a step could stop, and the state
after reset. -/

namespace Sys2Proof.Machine

/-- STATUS (R26). The value 0b11 is reserved and never produced (I16), so it has no constructor. -/
inductive Status where
  | ok
  | illegal
  | fault
  deriving DecidableEq, Repr

/-- One request: the operation word and the three operands, whole (R24, R27, R43). -/
structure Request where
  op : OpWord
  a : Word64
  b : Word64
  c : Word64
  deriving DecidableEq, Repr

/-- One response: STATUS and the three results, whole (R25, R26, R43). -/
structure Response where
  status : Status
  r0 : Word64
  r1 : Word64
  r2 : Word64
  deriving DecidableEq, Repr

/-- An entry of Q: the request (R24), its response, computed at acceptance (R181; log 5), and how many edges must
still pass before that response is available (R180; log 7). -/
structure Entry where
  req : Request
  rsp : Response
  wait : Nat
  deriving DecidableEq, Repr

/-- A delivered response with its request (R19, R34). -/
structure Exchange where
  req : Request
  rsp : Response
  deriving DecidableEq, Repr

/-- The input wires as the unit samples them at one rising edge (R28). -/
structure Port where
  rst : Bool
  reqValid : Bool
  op : OpWord
  a : Word64
  b : Word64
  c : Word64
  rspReady : Bool
  deriving DecidableEq, Repr

/-- A host that drives every input low: no reset, no request, no response taken. -/
def Port.idle : Port := ⟨false, false, 0, 0, 0, 0, false⟩

/-- The state of one instance. `faulted`, `diag` and `queue` are the unit's state (R33); `port` and `script` are the
host's wires at the next edge and at the edges after it (log 2); `build` is the instance's build parameters, which no
step changes (R30; log 1); `answered` and `dropped` are the observation of R34 (log 11); `accepted` and `edges` count
requests and edges for the free values (logs 7, 8, 9). -/
structure State where
  faulted : Bool
  diag : Word64
  queue : List Entry
  port : Port
  script : List Port
  build : Build
  answered : List Exchange
  dropped : List Request
  accepted : Nat
  edges : Nat
  deriving DecidableEq, Repr

/-- The reasons a step stops with a fault: none. R159 names no error beyond the contract violation and the illegal
word, and both are answered with a response, which is a next state (log 17; safe, since nothing stops). -/
inductive Fault where
  deriving DecidableEq, Repr

/-- The reasons a step is refused. -/
inductive Refusal where
  /-- An instruction without a meaning. No arm of `exec` raises it: every row of R61 has its meaning (safe). -/
  | notModelled (mnemonic : String)
  deriving DecidableEq, Repr

/-- The state right after a reset edge (R33, R171): FAULTED = 0, DIAG = 0, Q empty. The wires are idle and the script
empty (log 2), the observation empty (log 11), the counters 0 (logs 7, 8, 9) and the build any (log 1). -/
def State.reset : State where
  faulted := false
  diag := 0
  queue := []
  port := Port.idle
  script := []
  build := Config.build
  answered := []
  dropped := []
  accepted := 0
  edges := 0

end Sys2Proof.Machine
end

