-- ==== Sys2Proof/Machine/Operands.lean ====
section
/-! DEFINITION. The one operand form: values on ports (30_encoding R58 to R60; 10_state R25, R27). -/

namespace Sys2Proof.Machine

/-- The number of bits of a float type (R16). -/
def floatBits : FloatType → Nat
  | .binary32 => 32
  | .binary64 => 64

/-- `P[W-1:0]`: the integer operand on a port; for W = 32, bits 63:32 are ignored (R27, R58). -/
def intOperand (w : Width) (p : Word64) : BitVec w.bits := p.setWidth w.bits

/-- `float_T(P)` of R16: `P[31:0]` for binary32 (bits 63:32 ignored), `P[63:0]` for binary64. -/
def floatOperand (t : FloatType) (p : Word64) : BitVec (floatBits t) := p.setWidth (floatBits t)

/-- `zext_64(v)` (R14, R25). -/
def zext64 {n : Nat} (v : BitVec n) : Word64 := v.setWidth 64

/-- `put_T(r)` of R16: a binary32 result in bits 31:0 with bits 63:32 = 0, a binary64 result whole (R135). -/
def putFloat (t : FloatType) (r : BitVec (floatBits t)) : Word64 := r.setWidth 64

end Sys2Proof.Machine
end

