-- ==== Sys2Proof/Machine/Float.lean ====
section
/-! DEFINITION. IEEE 754 binary32 and binary64 (00_scope R16; 43_normalizer R133): values, ordered comparison, rounding
to nearest with ties to even, and encoding. A finite value is held exactly, as a count of UNITS: one unit is the least
positive subnormal of the type, 2^-149 for binary32 and 2^-1074 for binary64 (log 12). -/

namespace Sys2Proof.Machine

/-- The number of fraction bits (R16). -/
def fracBits : FloatType → Nat
  | .binary32 => 23
  | .binary64 => 52

/-- The number of exponent bits (R16). -/
def expBits : FloatType → Nat
  | .binary32 => 8
  | .binary64 => 11

/-- The exponent bias (R16). -/
def bias : FloatType → Nat
  | .binary32 => 127
  | .binary64 => 1023

/-- The value 1.0 in units: 2^(bias - 1 + fracBits). -/
def oneUnits (t : FloatType) : Nat := 2 ^ (bias t - 1 + fracBits t)

/-- The least power of two that is too large for the type, 2^(bias + 1), in units. -/
def overflowUnits (t : FloatType) : Nat := oneUnits t * 2 ^ (bias t + 1)

/-- What a bit pattern encodes (R16 `real_T`): a number, NaN or an infinity. -/
inductive FloatVal where
  | nan
  | inf (neg : Bool)
  | finite (neg : Bool) (units : Nat)
  deriving DecidableEq, Repr

/-- The sign bit (R16). -/
def signOf (t : FloatType) (v : BitVec (floatBits t)) : Bool := v.getLsbD (fracBits t + expBits t)

/-- The exponent field (R16). -/
def expOf (t : FloatType) (v : BitVec (floatBits t)) : Nat := v.toNat / 2 ^ fracBits t % 2 ^ expBits t

/-- The fraction field (R16). -/
def fracOf (t : FloatType) (v : BitVec (floatBits t)) : Nat := v.toNat % 2 ^ fracBits t

/-- The magnitude of a finite pattern in units: `frac` for exponent 0 (zero and the subnormals), `1.frac` scaled by
2^(exp - 1) otherwise (R16). -/
def unitsOf (t : FloatType) (v : BitVec (floatBits t)) : Nat :=
  if expOf t v = 0 then fracOf t v else (2 ^ fracBits t + fracOf t v) * 2 ^ (expOf t v - 1)

/-- `real_T(bits)` (R16). -/
def realOf (t : FloatType) (v : BitVec (floatBits t)) : FloatVal :=
  if expOf t v = 2 ^ expBits t - 1 then
    if fracOf t v = 0 then .inf (signOf t v) else .nan
  else .finite (signOf t v) (unitsOf t v)

/-- `le(x, y)` (R16): the IEEE ordered comparison x ≤ y, false when either side is NaN. -/
def FloatVal.le : FloatVal → FloatVal → Bool
  | .nan, _ => false
  | _, .nan => false
  | .inf true, _ => true
  | .inf false, .inf false => true
  | .inf false, _ => false
  | .finite _ _, .inf neg => !neg
  | .finite false x, .finite false y => decide (x ≤ y)
  | .finite true x, .finite true y => decide (y ≤ x)
  | .finite true _, .finite false _ => true
  | .finite false x, .finite true y => x == 0 && y == 0

/-- The quotient num / den rounded to the nearest natural number, ties to even. -/
def roundQuot (num den : Nat) : Nat :=
  let q := num / den
  let r := num % den
  if den < 2 * r ∨ (2 * r = den ∧ q % 2 = 1) then q + 1 else q

/-- The exponent, in units, of the last significand place of a magnitude of `n` units: 0 below 2^(fracBits + 1), so that
subnormals are rounded at the unit. -/
def lastPlace (t : FloatType) (n : Nat) : Nat := n.log2 - fracBits t

/-- `RN_T` (R16) of the magnitude num / den units, in units: rounded once, to nearest, ties to even, at the last place
of its significand. -/
def roundUnits (t : FloatType) (num den : Nat) : Nat :=
  roundQuot num (den * 2 ^ lastPlace t (num / den)) * 2 ^ lastPlace t (num / den)

/-- `bits_T` (R16) of a nonnegative representable magnitude in units, below overflow: sign 0, and the exponent and
fraction fields side by side. -/
def bitsOfUnits (t : FloatType) (n : Nat) : BitVec (floatBits t) :=
  BitVec.ofNat (floatBits t)
    (if n < 2 ^ fracBits t then n
     else (lastPlace t n + 1) * 2 ^ fracBits t + (n / 2 ^ lastPlace t n - 2 ^ fracBits t))

end Sys2Proof.Machine
end

