-- ==== Sys2Proof/WellFormed.lean ====
section
/-! DEFINITION. Well-formed field values and instructions: the field conditions of R54 and R55. -/

namespace Sys2Proof

/-- The classes that select an axis mask (R54): MCONST, BSCAT and BGATH. -/
def OpClass.usesAxis : OpClass → Bool
  | .mconst | .bscat | .bgath => true
  | .menc | .mdec | .qnt | .dqnt | .fenc | .fdec => false

/-- The float classes, OPC 0x6 to 0x9 (R55). -/
def OpClass.isFloat : OpClass → Bool
  | .qnt | .dqnt | .fenc | .fdec => true
  | .mconst | .bscat | .bgath | .menc | .mdec => false

/-- AX < D for a class that selects an axis; AX = 0 for every other class (R54). -/
def Fields.axisOk (f : Fields) : Bool :=
  if f.cls.usesAxis then f.ax.toNat < f.d.axes else f.ax == 0

/-- T = 0 for an integer class; not binary32 with W = 64 for a float class (R55). -/
def Fields.floatOk (f : Fields) : Bool :=
  if f.cls.isFloat then !(f.t == .binary32 && f.w == .w64) else f.t == .binary32

/-- The field values of a legal operation word (R54, R55, R57). -/
def Fields.wellFormed (f : Fields) : Bool := f.axisOk && f.floatOk

/-- An instruction is well formed when its fields are. -/
def Instr.wellFormed (i : Instr) : Bool := i.fields.wellFormed

end Sys2Proof
end

