-- ==== Sys2Proof/Decode.lean ====
section
/-! DEFINITION. The decoder of an operation word and the encoder (30_encoding R50 to R62). A word is 32 bits and
there is no second word, prefix or mode (R63). -/

namespace Sys2Proof

/-- Why a word is illegal: the cases of R62. -/
inductive IllegalWord where
  /-- A bit of RES = OP[31:9] is set (R56). -/
  | reservedBits
  /-- OPC is 0x0 or 0xA to 0xF (R51). -/
  | reservedClass
  /-- AX ≥ D for MCONST, BSCAT or BGATH, or AX ≠ 0 for another class (R54). -/
  | badAxis
  /-- T = 1 on an integer class, or binary32 with W = 64 on a float class (R55). -/
  | badFloatType
  /-- The fields are those of no row of R61; no word is rejected so, since R57 admits exactly the rows. -/
  | noRow
  deriving DecidableEq, Repr

/-- OPC values (R51). -/
def opcOf : OpClass → BitVec 4
  | .mconst => 0x1
  | .bscat => 0x2
  | .bgath => 0x3
  | .menc => 0x4
  | .mdec => 0x5
  | .qnt => 0x6
  | .dqnt => 0x7
  | .fenc => 0x8
  | .fdec => 0x9

/-- The class of an OPC value; 0x0 and 0xA to 0xF have none (R51, R62). -/
def classOf (opc : BitVec 4) : Option OpClass :=
  match opc.toNat with
  | 1 => some .mconst
  | 2 => some .bscat
  | 3 => some .bgath
  | 4 => some .menc
  | 5 => some .mdec
  | 6 => some .qnt
  | 7 => some .dqnt
  | 8 => some .fenc
  | 9 => some .fdec
  | _ => none

/-- OP[3:0] (R50). -/
def opcField (op : OpWord) : BitVec 4 := op.extractLsb' 0 4

/-- OP[4]: 0 is W = 32, 1 is W = 64 (R52). -/
def widthField (op : OpWord) : Width := if op.getLsbD 4 then .w64 else .w32

/-- OP[5]: 0 is 2D, 1 is 3D (R53). -/
def dimField (op : OpWord) : Dim := if op.getLsbD 5 then .d3 else .d2

/-- OP[7:6] (R54). -/
def axisField (op : OpWord) : BitVec 2 := op.extractLsb' 6 2

/-- OP[8]: 0 is binary32, 1 is binary64 (R55). -/
def floatField (op : OpWord) : FloatType := if op.getLsbD 8 then .binary64 else .binary32

/-- OP[31:9] (R56). -/
def resField (op : OpWord) : BitVec 23 := op.extractLsb' 9 23

/-- The row of R61 with the given field values. -/
def instrOf (f : Fields) : Option Instr := Instr.all.find? fun i => i.fields == f

/-- The decoder (R57, R67): total on every 32-bit word, rejecting each illegal word by name (R62). -/
def decode (op : OpWord) : Except IllegalWord Instr :=
  if resField op != 0 then .error .reservedBits
  else
    match classOf (opcField op) with
    | none => .error .reservedClass
    | some c =>
      let f : Fields := ⟨c, widthField op, dimField op, axisField op, floatField op⟩
      if !f.axisOk then .error .badAxis
      else if !f.floatOk then .error .badFloatType
      else
        match instrOf f with
        | some i => .ok i
        | none => .error .noRow

/-- `legal(OP)` as R57 writes it, over the numbers its fields hold. -/
def legal (op : OpWord) : Bool :=
  let opc := (op.extractLsb' 0 4).toNat
  let w := (op.extractLsb' 4 1).toNat
  let d := (op.extractLsb' 5 1).toNat
  let ax := (op.extractLsb' 6 2).toNat
  let t := (op.extractLsb' 8 1).toNat
  (op.extractLsb' 9 23).toNat == 0
    && (1 ≤ opc && opc ≤ 9)
    && (if opc ≤ 3 then ax < (if d == 1 then 3 else 2) else ax == 0)
    && (if opc ≤ 5 then t == 0 else !(t == 0 && w == 1))

/-- The bit of field W (R52). -/
def widthBit : Width → BitVec 1
  | .w32 => 0
  | .w64 => 1

/-- The bit of field D (R53). -/
def dimBit : Dim → BitVec 1
  | .d2 => 0
  | .d3 => 1

/-- The bit of field T (R55). -/
def floatBit : FloatType → BitVec 1
  | .binary32 => 0
  | .binary64 => 1

/-- The operation word of the given field values: RES, T, AX, D, W, OPC from the high end (R50). -/
def encodeFields (f : Fields) : OpWord :=
  (0 : BitVec 23) ++ floatBit f.t ++ f.ax ++ dimBit f.d ++ widthBit f.w ++ opcOf f.cls

/-- The encoder: the operation word of an instruction (R50, R61). -/
def encode (i : Instr) : OpWord := encodeFields i.fields

/-- The instruction this decoder reads from a word of the opcode table's bit numbering. Log 16. -/
def decodeTableWord (nbits w : Nat) : Option Instr :=
  match decode (BitVec.ofNat 32 (w % 2 ^ nbits)) with
  | .ok i => some i
  | .error _ => none

end Sys2Proof
end

