-- ==== Sys2Proof/Machine/Flags.lean ====
section
/-! DEFINITION. The condition values the unit returns: the STATUS code (R26), which is its only condition code, and the
DIAG word of a contract violation (R23, R151, R152). No operation sets any other flag (R26, R133). -/

namespace Sys2Proof.Machine

/-- The 2-bit code of STATUS (R26). -/
def statusCode : Status → BitVec 2
  | .ok => 0b00
  | .illegal => 0b01
  | .fault => 0b10

/-- The contract conditions (R150, R151). -/
inductive Cond where
  /-- An integer coordinate or scatter source exceeds `maxc(W, D)`. -/
  | coordRange
  /-- A float coordinate is not in [0, 1]. -/
  | floatRange
  deriving DecidableEq, Repr

/-- DIAG.COND of a condition (R151). -/
def condCode : Cond → BitVec 4
  | .coordRange => 0x1
  | .floatRange => 0x2

/-- The operand that failed (R23): the index of A is 0, of B 1, of C 2. -/
inductive OperandIndex where
  | a
  | b
  | c
  deriving DecidableEq, Repr

/-- DIAG.OPIDX of an operand (R23). -/
def operandCode : OperandIndex → BitVec 2
  | .a => 0
  | .b => 1
  | .c => 2

/-- `diag = zext_64(cond) | (idx << 4) | (zext_64(OP) << 16)` (R152). -/
def diagWord (cond : Cond) (idx : OperandIndex) (op : OpWord) : Word64 :=
  zext64 (condCode cond) ||| (zext64 (operandCode idx) <<< 4) ||| (zext64 op <<< 16)

/-- DIAG[3:0] = COND (R23). -/
def diagCond (d : Word64) : BitVec 4 := d.extractLsb' 0 4

/-- DIAG[5:4] = OPIDX (R23). -/
def diagOperand (d : Word64) : BitVec 2 := d.extractLsb' 4 2

/-- DIAG[47:16] = OPWORD (R23). -/
def diagOpWord (d : Word64) : OpWord := d.extractLsb' 16 32

end Sys2Proof.Machine
end

