-- ==== Sys2Proof/Machine/Ops.lean ====
section
/-! DEFINITION. The operations on the state that every instruction shares: accepting a request, answering it, taking a
contract violation, answering an illegal word, delivering a response, resetting, and passing an edge. -/

namespace Sys2Proof.Machine

/-- What an operation's own rule gives before the contract mode is looked at: its results, or the violation it raises
(R15: `raise ContractViolation(cond, idx)`). -/
inductive Result where
  | ok (r0 r1 r2 : Word64)
  | violation (cond : Cond) (idx : OperandIndex)
  deriving DecidableEq, Repr

/-- |Q| < QDEPTH (R24, R176). An empty Q has room in every build, since QDEPTH ≥ 1 (R10). -/
def State.hasRoom (s : State) : Bool :=
  s.queue.isEmpty || decide (s.queue.length < s.build.qdepth)

/-- `req_ready` (R172, R176): 1 exactly when rst = 0, FAULTED = 0 and |Q| < QDEPTH. -/
def State.reqReady (s : State) : Bool := !s.port.rst && !s.faulted && s.hasRoom

/-- The head of Q when its response is available (R178, R180). -/
def State.available (s : State) : Option Entry :=
  match s.queue with
  | [] => none
  | e :: _ => if e.wait == 0 then some e else none

/-- `rsp_valid` (R172, R178). -/
def State.rspValid (s : State) : Bool := !s.port.rst && s.available.isSome

/-- The request on the wires, with the given operation word (R24, R176). -/
def State.request (s : State) (op : OpWord) : Request := ⟨op, s.port.a, s.port.b, s.port.c⟩

/-- A request joins the tail of Q with its response (R176, R181), which becomes available LATENCY edges on, plus a free
bounded number of edges (R180; log 7). -/
def State.enqueue (s : State) (q : Request) (r : Response) : State :=
  { s with
    queue := s.queue ++ [⟨q, r, s.build.latency + (Config.responseSlack s.accepted).val⟩]
    accepted := s.accepted + 1 }

/-- The FAULT response of R152: R0 = DIAG, R1 = R2 = 0. -/
def faultResponse (diag : Word64) : Response := ⟨.fault, diag, 0, 0⟩

/-- The ILLEGAL response of R158. -/
def illegalResponse : Response := ⟨.illegal, 0, 0, 0⟩

/-- The OK response of an UNCHECKED violation (R155): R0, the one port a violating operation writes, holds `any_N()`
with N = W, zero-extended; R1 = R2 = 0 (log 8). -/
def anyResponse (w : Width) (any : Word64) : Response :=
  ⟨.ok, zext64 (any.setWidth w.bits), 0, 0⟩

/-- TAKING THE EXCEPTION. A contract violation of the request `q` of width `w` (R152 to R155). CHECKED: the FAULT
response joins Q, FAULTED ← 1 and DIAG ← diag; no later request can be in Q or join it, so none is discarded (R153;
log 6). UNCHECKED: an OK response with any value on R0, and nothing else changes. -/
def State.takeViolation (s : State) (q : Request) (w : Width) (cond : Cond) (idx : OperandIndex) : State :=
  match s.build.contractMode with
  | .checked =>
    { s.enqueue q (faultResponse (diagWord cond idx q.op)) with
      faulted := true
      diag := diagWord cond idx q.op }
  | .unchecked => s.enqueue q (anyResponse w (Config.anyResult s.accepted))

/-- RETURNING FROM THE EXCEPTION: only a reset edge leaves the FAULTED state (R162). FAULTED ← 0, DIAG ← 0, Q ← empty,
its requests dropped without a response (R171, R186). -/
def State.resetEdge (s : State) : State :=
  { s with
    faulted := false
    diag := 0
    queue := []
    dropped := s.dropped ++ s.queue.map (·.req) }

/-- Answering an accepted request with its operation's result (R158 `respond`). -/
def State.answer (s : State) (q : Request) (w : Width) (r : Result) : State :=
  match r with
  | .ok r0 r1 r2 => s.enqueue q ⟨.ok, r0, r1, r2⟩
  | .violation cond idx => s.takeViolation q w cond idx

/-- One legal operation on the request wires: accepted and answered when `req_ready` = 1 (R176, R181); otherwise the
request waits and nothing changes (R154; log 10). -/
def State.perform (s : State) (i : Instr) (r : Result) : Host.Outcome State Fault Refusal :=
  if s.reqReady then .next (s.answer (s.request (encode i)) i.fields.w r) else .next s

/-- An illegal word on the request wires: accepted when `req_ready` = 1 and answered ILLEGAL, FAULTED and DIAG
unchanged, in both modes (R157, R158). -/
def State.answerIllegal (s : State) : Host.Outcome State Fault Refusal :=
  if s.reqReady then .next (s.enqueue (s.request s.port.op) illegalResponse) else .next s

/-- The head of Q leaves as its response is delivered (R24, R178). -/
def State.deliver (s : State) : State :=
  match s.queue with
  | [] => s
  | e :: rest => { s with queue := rest, answered := s.answered ++ [⟨e.req, e.rsp⟩] }

/-- The input wires after an edge: the next of the script, or idle wires when the script has ended (log 2). -/
def nextPort : List Port → Port
  | [] => Port.idle
  | p :: _ => p

/-- One edge passes: every queued response is an edge nearer to being available (R180), and the wires take the host's
next values. -/
def State.tick (s : State) : State :=
  { s with
    queue := s.queue.map fun e => { e with wait := e.wait - 1 }
    port := nextPort s.script
    script := s.script.tail
    edges := s.edges + 1 }

/-- The output wires (R28). -/
structure Outputs where
  reqReady : Bool
  rspValid : Bool
  rspStatus : BitVec 2
  rspR0 : Word64
  rspR1 : Word64
  rspR2 : Word64
  faulted : Bool
  diag : Word64
  deriving DecidableEq, Repr

/-- What the unit drives in the cycle before the next edge (R172, R176, R178). The response wires carry the head's
response while `rsp_valid` = 1 and free values otherwise (I18; log 9). -/
def State.outputs (s : State) : Outputs :=
  match (if s.port.rst then none else s.available) with
  | some e => ⟨s.reqReady, true, statusCode e.rsp.status, e.rsp.r0, e.rsp.r1, e.rsp.r2, s.faulted, s.diag⟩
  | none =>
    ⟨s.reqReady, false, Config.idleStatus s.edges, Config.idleResult s.edges 0, Config.idleResult s.edges 1,
      Config.idleResult s.edges 2, s.faulted, s.diag⟩

end Sys2Proof.Machine
end

