-- ==== Sys2Proof/Machine/Constants.lean ====
section
/-! DEFINITION. Axis masks, maximum coordinates and used bits (40_constants R70 to R73), hardwired constants (R29), and
what MCONST computes from them (R76). The 3D masks stop below bit 3 × floor(W/3) (90_conflicts C1, C2). -/

namespace Sys2Proof.Machine

/-- n(W, D) = floor(W / D), the bits per axis (R70). -/
def axisBits (w : Width) (d : Dim) : Nat := w.bits / d.axes

/-- `mask(W, D, i)`: the sum of 2^(D*k + i) over k < n(W, D) (R70). -/
def mask (w : Width) (d : Dim) (i : Nat) : BitVec w.bits :=
  BitVec.ofNat w.bits ((List.range (axisBits w d)).map fun k => 2 ^ (d.axes * k + i)).sum

/-- `maxc(W, D) = 2^floor(W/D) - 1` (R71). -/
def maxc (w : Width) (d : Dim) : Nat := 2 ^ axisBits w d - 1

/-- `used(W, D)`: the OR of the axis masks (R72). -/
def used (w : Width) (d : Dim) : BitVec w.bits :=
  match d with
  | .d2 => mask w .d2 0 ||| mask w .d2 1
  | .d3 => mask w .d3 0 ||| mask w .d3 1 ||| mask w .d3 2

/-- MCONST (R76): R0 = mask, R1 = maxc, R2 = used; no operand is read. -/
def mconst (w : Width) (d : Dim) (ax : Nat) : Result :=
  .ok (zext64 (mask w d ax)) (BitVec.ofNat 64 (maxc w d)) (zext64 (used w d))

/-! ## The meanings of the operations, one per row of R61 -/

/-- `mconst.d2.w32.a0` (R76). -/
def execMconstD2W32A0 (s : State) : Host.Outcome State Fault Refusal :=
  s.perform .mconstD2W32A0 (mconst .w32 .d2 0)

/-- `mconst.d2.w32.a1` (R76). -/
def execMconstD2W32A1 (s : State) : Host.Outcome State Fault Refusal :=
  s.perform .mconstD2W32A1 (mconst .w32 .d2 1)

/-- `mconst.d2.w64.a0` (R76). -/
def execMconstD2W64A0 (s : State) : Host.Outcome State Fault Refusal :=
  s.perform .mconstD2W64A0 (mconst .w64 .d2 0)

/-- `mconst.d2.w64.a1` (R76). -/
def execMconstD2W64A1 (s : State) : Host.Outcome State Fault Refusal :=
  s.perform .mconstD2W64A1 (mconst .w64 .d2 1)

/-- `mconst.d3.w32.a0` (R76). -/
def execMconstD3W32A0 (s : State) : Host.Outcome State Fault Refusal :=
  s.perform .mconstD3W32A0 (mconst .w32 .d3 0)

/-- `mconst.d3.w32.a1` (R76). -/
def execMconstD3W32A1 (s : State) : Host.Outcome State Fault Refusal :=
  s.perform .mconstD3W32A1 (mconst .w32 .d3 1)

/-- `mconst.d3.w32.a2` (R76). -/
def execMconstD3W32A2 (s : State) : Host.Outcome State Fault Refusal :=
  s.perform .mconstD3W32A2 (mconst .w32 .d3 2)

/-- `mconst.d3.w64.a0` (R76). -/
def execMconstD3W64A0 (s : State) : Host.Outcome State Fault Refusal :=
  s.perform .mconstD3W64A0 (mconst .w64 .d3 0)

/-- `mconst.d3.w64.a1` (R76). -/
def execMconstD3W64A1 (s : State) : Host.Outcome State Fault Refusal :=
  s.perform .mconstD3W64A1 (mconst .w64 .d3 1)

/-- `mconst.d3.w64.a2` (R76). -/
def execMconstD3W64A2 (s : State) : Host.Outcome State Fault Refusal :=
  s.perform .mconstD3W64A2 (mconst .w64 .d3 2)

end Sys2Proof.Machine
end

