-- ==== Sys2Proof/Machine/BitPrimitives.lean ====
section
/-! DEFINITION. Bit scatter and bit gather (41_bit_primitives R80 to R85, R90), and what BSCAT and BGATH compute. -/

namespace Sys2Proof.Machine

/-- The positions p_0 < p_1 < ... of the set bits of a mask (R80). -/
def positions {n : Nat} (m : BitVec n) : List Nat := (List.range n).filter fun p => m.getLsbD p

/-- `popcount(m)` (R14). -/
def popcount {n : Nat} (m : BitVec n) : Nat := (positions m).length

/-- The value `b << p` of one bit, on n bits (R80, R90). -/
def bitAt (n : Nat) (b : Bool) (p : Nat) : BitVec n := if b then (1 : BitVec n) <<< p else 0

/-- OR over the listed positions of `s[j] << p`, j counting up from the given index (R80). -/
def depositFrom {n : Nat} (s : BitVec n) : Nat → List Nat → BitVec n
  | _, [] => 0
  | j, p :: ps => bitAt n (s.getLsbD j) p ||| depositFrom s (j + 1) ps

/-- OR over the listed positions of `s[p] << j`, j counting up from the given index (R81). -/
def extractFrom {n : Nat} (s : BitVec n) : Nat → List Nat → BitVec n
  | _, [] => 0
  | j, p :: ps => bitAt n (s.getLsbD p) j ||| extractFrom s (j + 1) ps

/-- `scatter(s, m)`, bit deposit (R80). -/
def scatter {n : Nat} (s m : BitVec n) : BitVec n := depositFrom s 0 (positions m)

/-- `gather(s, m)`, bit extract (R81). -/
def gather {n : Nat} (s m : BitVec n) : BitVec n := extractFrom s 0 (positions m)

/-- The precondition of a coordinate or scatter source: it is at most maxc(W, D), unsigned (R83, R108). -/
def coordOk (w : Width) (d : Dim) (s : BitVec w.bits) : Bool := s.toNat ≤ maxc w d

/-- BSCAT (R84). -/
def bscat (w : Width) (d : Dim) (ax : Nat) (a : Word64) : Result :=
  let s := intOperand w a
  if !coordOk w d s then .violation .coordRange .a
  else .ok (zext64 (scatter s (mask w d ax))) 0 0

/-- BGATH (R85). -/
def bgath (w : Width) (d : Dim) (ax : Nat) (a : Word64) : Result :=
  .ok (zext64 (gather (intOperand w a) (mask w d ax))) 0 0

/-! ## The meanings of the operations, one per row of R61 -/

/-- `bscat.d2.w32.a0` (R84). -/
def execBscatD2W32A0 (s : State) : Host.Outcome State Fault Refusal :=
  s.perform .bscatD2W32A0 (bscat .w32 .d2 0 s.port.a)

/-- `bscat.d2.w32.a1` (R84). -/
def execBscatD2W32A1 (s : State) : Host.Outcome State Fault Refusal :=
  s.perform .bscatD2W32A1 (bscat .w32 .d2 1 s.port.a)

/-- `bscat.d2.w64.a0` (R84). -/
def execBscatD2W64A0 (s : State) : Host.Outcome State Fault Refusal :=
  s.perform .bscatD2W64A0 (bscat .w64 .d2 0 s.port.a)

/-- `bscat.d2.w64.a1` (R84). -/
def execBscatD2W64A1 (s : State) : Host.Outcome State Fault Refusal :=
  s.perform .bscatD2W64A1 (bscat .w64 .d2 1 s.port.a)

/-- `bscat.d3.w32.a0` (R84). -/
def execBscatD3W32A0 (s : State) : Host.Outcome State Fault Refusal :=
  s.perform .bscatD3W32A0 (bscat .w32 .d3 0 s.port.a)

/-- `bscat.d3.w32.a1` (R84). -/
def execBscatD3W32A1 (s : State) : Host.Outcome State Fault Refusal :=
  s.perform .bscatD3W32A1 (bscat .w32 .d3 1 s.port.a)

/-- `bscat.d3.w32.a2` (R84). -/
def execBscatD3W32A2 (s : State) : Host.Outcome State Fault Refusal :=
  s.perform .bscatD3W32A2 (bscat .w32 .d3 2 s.port.a)

/-- `bscat.d3.w64.a0` (R84). -/
def execBscatD3W64A0 (s : State) : Host.Outcome State Fault Refusal :=
  s.perform .bscatD3W64A0 (bscat .w64 .d3 0 s.port.a)

/-- `bscat.d3.w64.a1` (R84). -/
def execBscatD3W64A1 (s : State) : Host.Outcome State Fault Refusal :=
  s.perform .bscatD3W64A1 (bscat .w64 .d3 1 s.port.a)

/-- `bscat.d3.w64.a2` (R84). -/
def execBscatD3W64A2 (s : State) : Host.Outcome State Fault Refusal :=
  s.perform .bscatD3W64A2 (bscat .w64 .d3 2 s.port.a)

/-- `bgath.d2.w32.a0` (R85). -/
def execBgathD2W32A0 (s : State) : Host.Outcome State Fault Refusal :=
  s.perform .bgathD2W32A0 (bgath .w32 .d2 0 s.port.a)

/-- `bgath.d2.w32.a1` (R85). -/
def execBgathD2W32A1 (s : State) : Host.Outcome State Fault Refusal :=
  s.perform .bgathD2W32A1 (bgath .w32 .d2 1 s.port.a)

/-- `bgath.d2.w64.a0` (R85). -/
def execBgathD2W64A0 (s : State) : Host.Outcome State Fault Refusal :=
  s.perform .bgathD2W64A0 (bgath .w64 .d2 0 s.port.a)

/-- `bgath.d2.w64.a1` (R85). -/
def execBgathD2W64A1 (s : State) : Host.Outcome State Fault Refusal :=
  s.perform .bgathD2W64A1 (bgath .w64 .d2 1 s.port.a)

/-- `bgath.d3.w32.a0` (R85). -/
def execBgathD3W32A0 (s : State) : Host.Outcome State Fault Refusal :=
  s.perform .bgathD3W32A0 (bgath .w32 .d3 0 s.port.a)

/-- `bgath.d3.w32.a1` (R85). -/
def execBgathD3W32A1 (s : State) : Host.Outcome State Fault Refusal :=
  s.perform .bgathD3W32A1 (bgath .w32 .d3 1 s.port.a)

/-- `bgath.d3.w32.a2` (R85). -/
def execBgathD3W32A2 (s : State) : Host.Outcome State Fault Refusal :=
  s.perform .bgathD3W32A2 (bgath .w32 .d3 2 s.port.a)

/-- `bgath.d3.w64.a0` (R85). -/
def execBgathD3W64A0 (s : State) : Host.Outcome State Fault Refusal :=
  s.perform .bgathD3W64A0 (bgath .w64 .d3 0 s.port.a)

/-- `bgath.d3.w64.a1` (R85). -/
def execBgathD3W64A1 (s : State) : Host.Outcome State Fault Refusal :=
  s.perform .bgathD3W64A1 (bgath .w64 .d3 1 s.port.a)

/-- `bgath.d3.w64.a2` (R85). -/
def execBgathD3W64A2 (s : State) : Host.Outcome State Fault Refusal :=
  s.perform .bgathD3W64A2 (bgath .w64 .d3 2 s.port.a)

end Sys2Proof.Machine
end

