-- ==== Sys2Proof/Machine/IntegerCodec.lean ====
section
/-! DEFINITION. Integer Morton encode and decode (42_integer_codec R100 to R105), and what MENC and MDEC compute. -/

namespace Sys2Proof.Machine

/-- `enc(W, 2, x, y)` (R100). -/
def enc2 (w : Width) (x y : BitVec w.bits) : BitVec w.bits :=
  scatter x (mask w .d2 0) ||| scatter y (mask w .d2 1)

/-- `enc(W, 3, x, y, z)` (R100). -/
def enc3 (w : Width) (x y z : BitVec w.bits) : BitVec w.bits :=
  scatter x (mask w .d3 0) ||| scatter y (mask w .d3 1) ||| scatter z (mask w .d3 2)

/-- Member i of `dec(W, D, code)` (R101). -/
def decAxis (w : Width) (d : Dim) (i : Nat) (code : BitVec w.bits) : BitVec w.bits :=
  gather code (mask w d i)

/-- MENC2 (R102): operand A is checked first (R156). -/
def menc2 (w : Width) (a b : Word64) : Result :=
  let x := intOperand w a
  let y := intOperand w b
  if !coordOk w .d2 x then .violation .coordRange .a
  else if !coordOk w .d2 y then .violation .coordRange .b
  else .ok (zext64 (enc2 w x y)) 0 0

/-- MENC3 (R103): A, then B, then C is checked (R156). -/
def menc3 (w : Width) (a b c : Word64) : Result :=
  let x := intOperand w a
  let y := intOperand w b
  let z := intOperand w c
  if !coordOk w .d3 x then .violation .coordRange .a
  else if !coordOk w .d3 y then .violation .coordRange .b
  else if !coordOk w .d3 z then .violation .coordRange .c
  else .ok (zext64 (enc3 w x y z)) 0 0

/-- MDEC2 (R104): axis i on port Ri. -/
def mdec2 (w : Width) (a : Word64) : Result :=
  let code := intOperand w a
  .ok (zext64 (decAxis w .d2 0 code)) (zext64 (decAxis w .d2 1 code)) 0

/-- MDEC3 (R105): axis i on port Ri; code bits outside `used(W, 3)` have no effect. -/
def mdec3 (w : Width) (a : Word64) : Result :=
  let code := intOperand w a
  .ok (zext64 (decAxis w .d3 0 code)) (zext64 (decAxis w .d3 1 code)) (zext64 (decAxis w .d3 2 code))

/-! ## The meanings of the operations, one per row of R61 -/

/-- `menc2.w32` (R102). -/
def execMenc2W32 (s : State) : Host.Outcome State Fault Refusal :=
  s.perform .menc2W32 (menc2 .w32 s.port.a s.port.b)

/-- `menc2.w64` (R102). -/
def execMenc2W64 (s : State) : Host.Outcome State Fault Refusal :=
  s.perform .menc2W64 (menc2 .w64 s.port.a s.port.b)

/-- `menc3.w32` (R103). -/
def execMenc3W32 (s : State) : Host.Outcome State Fault Refusal :=
  s.perform .menc3W32 (menc3 .w32 s.port.a s.port.b s.port.c)

/-- `menc3.w64` (R103). -/
def execMenc3W64 (s : State) : Host.Outcome State Fault Refusal :=
  s.perform .menc3W64 (menc3 .w64 s.port.a s.port.b s.port.c)

/-- `mdec2.w32` (R104). -/
def execMdec2W32 (s : State) : Host.Outcome State Fault Refusal :=
  s.perform .mdec2W32 (mdec2 .w32 s.port.a)

/-- `mdec2.w64` (R104). -/
def execMdec2W64 (s : State) : Host.Outcome State Fault Refusal :=
  s.perform .mdec2W64 (mdec2 .w64 s.port.a)

/-- `mdec3.w32` (R105). -/
def execMdec3W32 (s : State) : Host.Outcome State Fault Refusal :=
  s.perform .mdec3W32 (mdec3 .w32 s.port.a)

/-- `mdec3.w64` (R105). -/
def execMdec3W64 (s : State) : Host.Outcome State Fault Refusal :=
  s.perform .mdec3W64 (mdec3 .w64 s.port.a)

end Sys2Proof.Machine
end

