-- ==== Sys2Proof/Machine/FloatCodec.lean ====
section
/-! DEFINITION. The coordinate normalizer and the float Morton codec (43_normalizer R120 to R135), and what QNT, DQNT,
FENC and FDEC compute. -/

namespace Sys2Proof.Machine

/-- `inrange_T(v) = le(+0.0, v) and le(v, 1.0)` (R122): false for NaN, infinities and values outside [0, 1]; true for
-0.0. -/
def inrange (t : FloatType) (v : BitVec (floatBits t)) : Bool :=
  FloatVal.le (.finite false 0) (realOf t v) && FloatVal.le (realOf t v) (.finite false (oneUnits t))

/-- `quant(T, W, D, v) = trunc(RN_T(real_T(v) * M))`, M = maxc(W, D) (R120): the product is rounded once, then truncated.
For -0.0 the product is -0.0, which truncates to 0 (R132). Only patterns in range reach it. -/
def quant (t : FloatType) (w : Width) (d : Dim) (v : BitVec (floatBits t)) : Nat :=
  match realOf t v with
  | .finite _ n => roundUnits t (n * maxc w d) 1 / oneUnits t
  | .inf _ => 0
  | .nan => 0

/-- `dequant(T, W, D, q) = bits_T(RN_T(RN_T(q) / M))` (R121). -/
def dequant (t : FloatType) (w : Width) (d : Dim) (q : Nat) : BitVec (floatBits t) :=
  bitsOfUnits t (roundUnits t (roundUnits t (q * oneUnits t) 1) (maxc w d))

/-- The quantized coordinate as a W-bit unsigned integer (R120, R134). -/
def quantCoord (t : FloatType) (w : Width) (d : Dim) (v : BitVec (floatBits t)) : BitVec w.bits :=
  BitVec.ofNat w.bits (quant t w d v)

/-- A decoded coordinate on its result port (R128, R129). -/
def dequantPort (t : FloatType) (w : Width) (d : Dim) (q : BitVec w.bits) : Word64 :=
  putFloat t (dequant t w d q.toNat)

/-- QNT (R124). -/
def qnt (t : FloatType) (w : Width) (d : Dim) (a : Word64) : Result :=
  let v := floatOperand t a
  if !inrange t v then .violation .floatRange .a
  else .ok (zext64 (quantCoord t w d v)) 0 0

/-- DQNT (R125): every q is accepted. -/
def dqnt (t : FloatType) (w : Width) (d : Dim) (a : Word64) : Result :=
  .ok (dequantPort t w d (intOperand w a)) 0 0

/-- FENC2 (R126): A is checked before B (R156). -/
def fenc2 (t : FloatType) (w : Width) (a b : Word64) : Result :=
  let vx := floatOperand t a
  let vy := floatOperand t b
  if !inrange t vx then .violation .floatRange .a
  else if !inrange t vy then .violation .floatRange .b
  else .ok (zext64 (enc2 w (quantCoord t w .d2 vx) (quantCoord t w .d2 vy))) 0 0

/-- FENC3 (R127): A, then B, then C is checked (R156). -/
def fenc3 (t : FloatType) (w : Width) (a b c : Word64) : Result :=
  let vx := floatOperand t a
  let vy := floatOperand t b
  let vz := floatOperand t c
  if !inrange t vx then .violation .floatRange .a
  else if !inrange t vy then .violation .floatRange .b
  else if !inrange t vz then .violation .floatRange .c
  else
    .ok (zext64 (enc3 w (quantCoord t w .d3 vx) (quantCoord t w .d3 vy) (quantCoord t w .d3 vz))) 0 0

/-- FDEC2 (R128). -/
def fdec2 (t : FloatType) (w : Width) (a : Word64) : Result :=
  let code := intOperand w a
  .ok (dequantPort t w .d2 (decAxis w .d2 0 code)) (dequantPort t w .d2 (decAxis w .d2 1 code)) 0

/-- FDEC3 (R129): the unused code bits are ignored (R101). -/
def fdec3 (t : FloatType) (w : Width) (a : Word64) : Result :=
  let code := intOperand w a
  .ok (dequantPort t w .d3 (decAxis w .d3 0 code)) (dequantPort t w .d3 (decAxis w .d3 1 code))
    (dequantPort t w .d3 (decAxis w .d3 2 code))

/-! ## The meanings of the operations, one per row of R61 -/

/-- `qnt.d2.f32.w32` (R124). -/
def execQntD2F32W32 (s : State) : Host.Outcome State Fault Refusal :=
  s.perform .qntD2F32W32 (qnt .binary32 .w32 .d2 s.port.a)

/-- `qnt.d3.f32.w32` (R124). -/
def execQntD3F32W32 (s : State) : Host.Outcome State Fault Refusal :=
  s.perform .qntD3F32W32 (qnt .binary32 .w32 .d3 s.port.a)

/-- `qnt.d2.f64.w32` (R124). -/
def execQntD2F64W32 (s : State) : Host.Outcome State Fault Refusal :=
  s.perform .qntD2F64W32 (qnt .binary64 .w32 .d2 s.port.a)

/-- `qnt.d2.f64.w64` (R124). -/
def execQntD2F64W64 (s : State) : Host.Outcome State Fault Refusal :=
  s.perform .qntD2F64W64 (qnt .binary64 .w64 .d2 s.port.a)

/-- `qnt.d3.f64.w32` (R124). -/
def execQntD3F64W32 (s : State) : Host.Outcome State Fault Refusal :=
  s.perform .qntD3F64W32 (qnt .binary64 .w32 .d3 s.port.a)

/-- `qnt.d3.f64.w64` (R124). -/
def execQntD3F64W64 (s : State) : Host.Outcome State Fault Refusal :=
  s.perform .qntD3F64W64 (qnt .binary64 .w64 .d3 s.port.a)

/-- `dqnt.d2.f32.w32` (R125). -/
def execDqntD2F32W32 (s : State) : Host.Outcome State Fault Refusal :=
  s.perform .dqntD2F32W32 (dqnt .binary32 .w32 .d2 s.port.a)

/-- `dqnt.d3.f32.w32` (R125). -/
def execDqntD3F32W32 (s : State) : Host.Outcome State Fault Refusal :=
  s.perform .dqntD3F32W32 (dqnt .binary32 .w32 .d3 s.port.a)

/-- `dqnt.d2.f64.w32` (R125). -/
def execDqntD2F64W32 (s : State) : Host.Outcome State Fault Refusal :=
  s.perform .dqntD2F64W32 (dqnt .binary64 .w32 .d2 s.port.a)

/-- `dqnt.d2.f64.w64` (R125). -/
def execDqntD2F64W64 (s : State) : Host.Outcome State Fault Refusal :=
  s.perform .dqntD2F64W64 (dqnt .binary64 .w64 .d2 s.port.a)

/-- `dqnt.d3.f64.w32` (R125). -/
def execDqntD3F64W32 (s : State) : Host.Outcome State Fault Refusal :=
  s.perform .dqntD3F64W32 (dqnt .binary64 .w32 .d3 s.port.a)

/-- `dqnt.d3.f64.w64` (R125). -/
def execDqntD3F64W64 (s : State) : Host.Outcome State Fault Refusal :=
  s.perform .dqntD3F64W64 (dqnt .binary64 .w64 .d3 s.port.a)

/-- `fenc2.f32.w32` (R126). -/
def execFenc2F32W32 (s : State) : Host.Outcome State Fault Refusal :=
  s.perform .fenc2F32W32 (fenc2 .binary32 .w32 s.port.a s.port.b)

/-- `fenc3.f32.w32` (R127). -/
def execFenc3F32W32 (s : State) : Host.Outcome State Fault Refusal :=
  s.perform .fenc3F32W32 (fenc3 .binary32 .w32 s.port.a s.port.b s.port.c)

/-- `fenc2.f64.w32` (R126). -/
def execFenc2F64W32 (s : State) : Host.Outcome State Fault Refusal :=
  s.perform .fenc2F64W32 (fenc2 .binary64 .w32 s.port.a s.port.b)

/-- `fenc2.f64.w64` (R126). -/
def execFenc2F64W64 (s : State) : Host.Outcome State Fault Refusal :=
  s.perform .fenc2F64W64 (fenc2 .binary64 .w64 s.port.a s.port.b)

/-- `fenc3.f64.w32` (R127). -/
def execFenc3F64W32 (s : State) : Host.Outcome State Fault Refusal :=
  s.perform .fenc3F64W32 (fenc3 .binary64 .w32 s.port.a s.port.b s.port.c)

/-- `fenc3.f64.w64` (R127). -/
def execFenc3F64W64 (s : State) : Host.Outcome State Fault Refusal :=
  s.perform .fenc3F64W64 (fenc3 .binary64 .w64 s.port.a s.port.b s.port.c)

/-- `fdec2.f32.w32` (R128). -/
def execFdec2F32W32 (s : State) : Host.Outcome State Fault Refusal :=
  s.perform .fdec2F32W32 (fdec2 .binary32 .w32 s.port.a)

/-- `fdec3.f32.w32` (R129). -/
def execFdec3F32W32 (s : State) : Host.Outcome State Fault Refusal :=
  s.perform .fdec3F32W32 (fdec3 .binary32 .w32 s.port.a)

/-- `fdec2.f64.w32` (R128). -/
def execFdec2F64W32 (s : State) : Host.Outcome State Fault Refusal :=
  s.perform .fdec2F64W32 (fdec2 .binary64 .w32 s.port.a)

/-- `fdec2.f64.w64` (R128). -/
def execFdec2F64W64 (s : State) : Host.Outcome State Fault Refusal :=
  s.perform .fdec2F64W64 (fdec2 .binary64 .w64 s.port.a)

/-- `fdec3.f64.w32` (R129). -/
def execFdec3F64W32 (s : State) : Host.Outcome State Fault Refusal :=
  s.perform .fdec3F64W32 (fdec3 .binary64 .w32 s.port.a)

/-- `fdec3.f64.w64` (R129). -/
def execFdec3F64W64 (s : State) : Host.Outcome State Fault Refusal :=
  s.perform .fdec3F64W64 (fdec3 .binary64 .w64 s.port.a)

end Sys2Proof.Machine
end

