-- ==== Sys2Proof/Machine/Dispatch.lean ====
section
/-! DEFINITION. The dispatch: one arm per operation of R61, in the table's order. -/

namespace Sys2Proof.Machine

def exec (i : Instr) (s : State) : Host.Outcome State Fault Refusal :=
  match i with
  | .mconstD2W32A0 => Sys2Proof.Machine.execMconstD2W32A0 s
  | .mconstD2W32A1 => Sys2Proof.Machine.execMconstD2W32A1 s
  | .mconstD2W64A0 => Sys2Proof.Machine.execMconstD2W64A0 s
  | .mconstD2W64A1 => Sys2Proof.Machine.execMconstD2W64A1 s
  | .mconstD3W32A0 => Sys2Proof.Machine.execMconstD3W32A0 s
  | .mconstD3W32A1 => Sys2Proof.Machine.execMconstD3W32A1 s
  | .mconstD3W32A2 => Sys2Proof.Machine.execMconstD3W32A2 s
  | .mconstD3W64A0 => Sys2Proof.Machine.execMconstD3W64A0 s
  | .mconstD3W64A1 => Sys2Proof.Machine.execMconstD3W64A1 s
  | .mconstD3W64A2 => Sys2Proof.Machine.execMconstD3W64A2 s
  | .bscatD2W32A0 => Sys2Proof.Machine.execBscatD2W32A0 s
  | .bscatD2W32A1 => Sys2Proof.Machine.execBscatD2W32A1 s
  | .bscatD2W64A0 => Sys2Proof.Machine.execBscatD2W64A0 s
  | .bscatD2W64A1 => Sys2Proof.Machine.execBscatD2W64A1 s
  | .bscatD3W32A0 => Sys2Proof.Machine.execBscatD3W32A0 s
  | .bscatD3W32A1 => Sys2Proof.Machine.execBscatD3W32A1 s
  | .bscatD3W32A2 => Sys2Proof.Machine.execBscatD3W32A2 s
  | .bscatD3W64A0 => Sys2Proof.Machine.execBscatD3W64A0 s
  | .bscatD3W64A1 => Sys2Proof.Machine.execBscatD3W64A1 s
  | .bscatD3W64A2 => Sys2Proof.Machine.execBscatD3W64A2 s
  | .bgathD2W32A0 => Sys2Proof.Machine.execBgathD2W32A0 s
  | .bgathD2W32A1 => Sys2Proof.Machine.execBgathD2W32A1 s
  | .bgathD2W64A0 => Sys2Proof.Machine.execBgathD2W64A0 s
  | .bgathD2W64A1 => Sys2Proof.Machine.execBgathD2W64A1 s
  | .bgathD3W32A0 => Sys2Proof.Machine.execBgathD3W32A0 s
  | .bgathD3W32A1 => Sys2Proof.Machine.execBgathD3W32A1 s
  | .bgathD3W32A2 => Sys2Proof.Machine.execBgathD3W32A2 s
  | .bgathD3W64A0 => Sys2Proof.Machine.execBgathD3W64A0 s
  | .bgathD3W64A1 => Sys2Proof.Machine.execBgathD3W64A1 s
  | .bgathD3W64A2 => Sys2Proof.Machine.execBgathD3W64A2 s
  | .menc2W32 => Sys2Proof.Machine.execMenc2W32 s
  | .menc2W64 => Sys2Proof.Machine.execMenc2W64 s
  | .menc3W32 => Sys2Proof.Machine.execMenc3W32 s
  | .menc3W64 => Sys2Proof.Machine.execMenc3W64 s
  | .mdec2W32 => Sys2Proof.Machine.execMdec2W32 s
  | .mdec2W64 => Sys2Proof.Machine.execMdec2W64 s
  | .mdec3W32 => Sys2Proof.Machine.execMdec3W32 s
  | .mdec3W64 => Sys2Proof.Machine.execMdec3W64 s
  | .qntD2F32W32 => Sys2Proof.Machine.execQntD2F32W32 s
  | .qntD3F32W32 => Sys2Proof.Machine.execQntD3F32W32 s
  | .qntD2F64W32 => Sys2Proof.Machine.execQntD2F64W32 s
  | .qntD2F64W64 => Sys2Proof.Machine.execQntD2F64W64 s
  | .qntD3F64W32 => Sys2Proof.Machine.execQntD3F64W32 s
  | .qntD3F64W64 => Sys2Proof.Machine.execQntD3F64W64 s
  | .dqntD2F32W32 => Sys2Proof.Machine.execDqntD2F32W32 s
  | .dqntD3F32W32 => Sys2Proof.Machine.execDqntD3F32W32 s
  | .dqntD2F64W32 => Sys2Proof.Machine.execDqntD2F64W32 s
  | .dqntD2F64W64 => Sys2Proof.Machine.execDqntD2F64W64 s
  | .dqntD3F64W32 => Sys2Proof.Machine.execDqntD3F64W32 s
  | .dqntD3F64W64 => Sys2Proof.Machine.execDqntD3F64W64 s
  | .fenc2F32W32 => Sys2Proof.Machine.execFenc2F32W32 s
  | .fenc3F32W32 => Sys2Proof.Machine.execFenc3F32W32 s
  | .fenc2F64W32 => Sys2Proof.Machine.execFenc2F64W32 s
  | .fenc2F64W64 => Sys2Proof.Machine.execFenc2F64W64 s
  | .fenc3F64W32 => Sys2Proof.Machine.execFenc3F64W32 s
  | .fenc3F64W64 => Sys2Proof.Machine.execFenc3F64W64 s
  | .fdec2F32W32 => Sys2Proof.Machine.execFdec2F32W32 s
  | .fdec3F32W32 => Sys2Proof.Machine.execFdec3F32W32 s
  | .fdec2F64W32 => Sys2Proof.Machine.execFdec2F64W32 s
  | .fdec2F64W64 => Sys2Proof.Machine.execFdec2F64W64 s
  | .fdec3F64W32 => Sys2Proof.Machine.execFdec3F64W32 s
  | .fdec3F64W64 => Sys2Proof.Machine.execFdec3F64W64 s

end Sys2Proof.Machine
end

