-- ==== Sys2Proof/Machine/Edge.lean ====
section
/-! DEFINITION. What happens at one rising edge (70_reset R170 to R181): the parts `step` puts together. -/

namespace Sys2Proof.Machine

/-- The word on the request wires is decoded first (R157): a legal one runs its operation, an illegal one is answered
ILLEGAL (R158). -/
def State.runRequest (s : State) : Host.Outcome State Fault Refusal :=
  match decode s.port.op with
  | .ok i => exec i s
  | .error _ => s.answerIllegal

/-- The request channel at an edge with rst = 0: nothing happens unless a request is offered (R176, R177). -/
def State.requestPhase (s : State) : Host.Outcome State Fault Refusal :=
  if s.port.reqValid then s.runRequest else .next s

/-- `rsp_valid` and `rsp_ready` are both 1 at this edge (R178). -/
def State.delivers (s : State) : Bool := s.rspValid && s.port.rspReady

/-- The end of an edge with rst = 0 that began in `s` and whose request channel left `t`: the response offered before
the edge is delivered if the host takes it (R178), and the edge passes. Room in Q was judged before the delivery (R176;
log 4). -/
def finishEdge (s t : State) : State := (if s.delivers then t.deliver else t).tick

/-- The word the host offers is put on the request wires with rst = 0, and `req_valid` raised. The operands and
everything else stay (log 3). -/
def State.offerWord (s : State) (op : OpWord) : State :=
  { s with port := { s.port with rst := false, reqValid := true, op := op } }

end Sys2Proof.Machine
end

