-- ==== Sys2Proof/Machine/Step.lean ====
section
/-! DEFINITION. The step: one rising edge of `clk` (10_state R28; 70_reset R170, R176, R178). -/

namespace Sys2Proof.Machine

/-- One rising edge. A reset edge takes precedence over both handshakes (R186); otherwise the request on the wires is
accepted if it can be, the head response is delivered if the host takes it, and the wires move on. -/
def step (s : State) : Host.Outcome State Fault Refusal :=
  if s.port.rst then .next s.resetEdge.tick
  else
    match s.requestPhase with
    | .next t => .next (finishEdge s t)
    | .fault f => .fault f
    | .refused r => .refused r

/-- The state in which the host offers the word `w` at the next edge, so that the next step accepts and runs it when
`req_ready` = 1 (log 3). -/
def State.withFetchWord (s : State) (nbits w : Nat) : State := s.offerWord (BitVec.ofNat 32 (w % 2 ^ nbits))

end Sys2Proof.Machine
end

