-- ==== Sys2Proof/Machine/Respond.lean ====
section
/-! DEFINITION. The transaction-level model of the block as the spec writes it: `respond` (60_exceptions R158) and the
three steps accept, deliver and reset (70_reset R181; 00_scope R19). `step` models the wires; that it agrees with this
model is stated as an obligation. -/

namespace Sys2Proof.Machine

/-- The operation that the field values select (R67), on the three operand ports. -/
def operate (f : Fields) (a b c : Word64) : Result :=
  match f.cls, f.d with
  | .mconst, d => mconst f.w d f.ax.toNat
  | .bscat, d => bscat f.w d f.ax.toNat a
  | .bgath, d => bgath f.w d f.ax.toNat a
  | .menc, .d2 => menc2 f.w a b
  | .menc, .d3 => menc3 f.w a b c
  | .mdec, .d2 => mdec2 f.w a
  | .mdec, .d3 => mdec3 f.w a
  | .qnt, d => qnt f.t f.w d a
  | .dqnt, d => dqnt f.t f.w d a
  | .fenc, .d2 => fenc2 f.t f.w a b
  | .fenc, .d3 => fenc3 f.t f.w a b c
  | .fdec, .d2 => fdec2 f.t f.w a
  | .fdec, .d3 => fdec3 f.t f.w a

/-- `respond(OP, A, B, C)` (R158) in a contract mode; `any` is the free draw of R155. -/
def respond (mode : ContractMode) (any : Word64) (q : Request) : Response :=
  match decode q.op with
  | .error _ => illegalResponse
  | .ok i =>
    match operate i.fields q.a q.b q.c with
    | .ok r0 r1 r2 => ⟨.ok, r0, r1, r2⟩
    | .violation cond idx =>
      match mode with
      | .checked => faultResponse (diagWord cond idx q.op)
      | .unchecked => anyResponse i.fields.w any

/-- The state (FAULTED, DIAG, Q) of R181, Q holding responses. -/
structure Txn where
  faulted : Bool
  diag : Word64
  queue : List Response
  deriving DecidableEq, Repr

/-- The reset state of R181. -/
def Txn.reset : Txn := ⟨false, 0, []⟩

/-- `accept` is enabled when FAULTED = 0 and |Q| < QDEPTH (R181). -/
def Txn.canAccept (depth : Nat) (t : Txn) : Bool := !t.faulted && decide (t.queue.length < depth)

/-- `accept(OP, A, B, C)` (R181), applied where it is enabled. -/
def Txn.accept (mode : ContractMode) (any : Word64) (q : Request) (t : Txn) : Txn :=
  let r := respond mode any q
  match r.status with
  | .fault => ⟨true, r.r0, t.queue ++ [r]⟩
  | .ok | .illegal => ⟨t.faulted, t.diag, t.queue ++ [r]⟩

/-- The state after `deliver()` (R181); the response output is the head of Q. -/
def Txn.deliver (t : Txn) : Txn := { t with queue := t.queue.tail }

/-- The transaction-level state of a state of the wire model. -/
def State.txn (s : State) : Txn := ⟨s.faulted, s.diag, s.queue.map (·.rsp)⟩

end Sys2Proof.Machine
end

