-- ==== Sys2Proof/Machine/Assembler.lean ====
section
/-! DEFINITION. The assembler notation (30_encoding R58, R59, R64, R65): mnemonics, operand counts, literals, and the
request a line stands for. It is notation only (I1): the machine does not read it. Log 18. -/

namespace Sys2Proof.Machine

/-- The mnemonic stem of a class and dimension (R51). -/
def stem (c : OpClass) (d : Dim) : String :=
  match c, d with
  | .mconst, _ => "mconst"
  | .bscat, _ => "bscat"
  | .bgath, _ => "bgath"
  | .menc, .d2 => "menc2"
  | .menc, .d3 => "menc3"
  | .mdec, .d2 => "mdec2"
  | .mdec, .d3 => "mdec3"
  | .qnt, _ => "qnt"
  | .dqnt, _ => "dqnt"
  | .fenc, .d2 => "fenc2"
  | .fenc, .d3 => "fenc3"
  | .fdec, .d2 => "fdec2"
  | .fdec, .d3 => "fdec3"

/-- The qualifier `.d<D>` (R64). -/
def dimQualifier : Dim → String
  | .d2 => ".d2"
  | .d3 => ".d3"

/-- The qualifier `.w<W>` (R64). -/
def widthQualifier : Width → String
  | .w32 => ".w32"
  | .w64 => ".w64"

/-- The qualifier `.f<TW>` (R64). -/
def floatQualifier : FloatType → String
  | .binary32 => ".f32"
  | .binary64 => ".f64"

/-- The qualifier `.a<AX>` (R64). -/
def axisQualifier (ax : BitVec 2) : String :=
  match ax.toNat with
  | 0 => ".a0"
  | 1 => ".a1"
  | 2 => ".a2"
  | _ => ".a3"

/-- The mnemonic of the given field values (R64): every qualifier is required. -/
def mnemonicOf (f : Fields) : String :=
  match f.cls with
  | .mconst | .bscat | .bgath =>
    stem f.cls f.d ++ dimQualifier f.d ++ widthQualifier f.w ++ axisQualifier f.ax
  | .menc | .mdec => stem f.cls f.d ++ widthQualifier f.w
  | .qnt | .dqnt => stem f.cls f.d ++ dimQualifier f.d ++ floatQualifier f.t ++ widthQualifier f.w
  | .fenc | .fdec => stem f.cls f.d ++ floatQualifier f.t ++ widthQualifier f.w

/-- The mnemonic of a row of R61. -/
def mnemonic (i : Instr) : String := mnemonicOf i.fields

/-- How many of the ports A, B, C the operation reads, in that order (R58). -/
def portsRead (f : Fields) : Nat :=
  match f.cls with
  | .mconst => 0
  | .menc | .fenc => f.d.axes
  | .bscat | .bgath | .mdec | .qnt | .dqnt | .fdec => 1

/-- How many of the ports R0, R1, R2 the operation writes, in that order (R59). -/
def portsWritten (f : Fields) : Nat :=
  match f.cls with
  | .mconst => 3
  | .mdec | .fdec => f.d.axes
  | .bscat | .bgath | .menc | .qnt | .dqnt | .fenc => 1

/-- An operand as it is written (R65): a 64-bit integer, or `f32:<decimal>` or `f64:<decimal>` with the decimal held as
a sign and a quotient num / den. -/
inductive Literal where
  | int (v : Nat)
  | float (t : FloatType) (neg : Bool) (num den : Nat)
  deriving DecidableEq, Repr

/-- The pattern of a magnitude, of the type's infinity when it rounds to 2^(bias + 1) or more (R16, R65; log 18). -/
def patternOfUnits (t : FloatType) (n : Nat) : Nat :=
  if overflowUnits t ≤ n then (2 ^ expBits t - 1) * 2 ^ fracBits t else (bitsOfUnits t n).toNat

/-- The 64-bit value of an operand (R65); an integer of more than 64 bits is no literal. -/
def Literal.value : Literal → Option Word64
  | .int v => if v < 2 ^ 64 then some (BitVec.ofNat 64 v) else none
  | .float t neg num den =>
    let mag := patternOfUnits t (roundUnits t (num * oneUnits t) den)
    some (BitVec.ofNat 64 (if neg then 2 ^ (fracBits t + expBits t) + mag else mag))

/-- One source line (R65): a mnemonic with its operands, or a raw `.word`. -/
inductive AsmLine where
  | op (mnemonic : String) (operands : List Literal)
  | word (op : OpWord) (a b c : Word64)
  deriving DecidableEq, Repr

/-- The row a mnemonic names (R64: one to one). -/
def instrNamed (m : String) : Option Instr := Instr.all.find? fun i => mnemonic i == m

/-- The request a line puts on the ports (R65): exactly as many operands as the operation reads, the others 0. -/
def assemble : AsmLine → Option Request
  | .word op a b c => some ⟨op, a, b, c⟩
  | .op m operands =>
    match instrNamed m, operands.mapM Literal.value with
    | some i, some vs =>
      if vs.length = portsRead i.fields then some ⟨encode i, vs.getD 0 0, vs.getD 1 0, vs.getD 2 0⟩ else none
    | _, _ => none

/-- What `-> <STATUS> <r0>[, <r1>[, <r2>]]` shows of a response (R65): STATUS and the ports the operation writes. -/
def shown (f : Fields) (r : Response) : Status × List Word64 :=
  (r.status, [r.r0, r.r1, r.r2].take (portsWritten f))

end Sys2Proof.Machine
end

