-- ==== Sys2Proof/Machine/Platform.lean ====
section
/-! DEFINITION. Several independent instances (00_scope R11; 60_exceptions R166; log 14). -/

namespace Sys2Proof.Machine

/-- A platform of MCB instances, each with its own state, build and wires (R11, R166). It has a first instance and
any number of further ones, since NUM_INSTANCES is at least 1 (R11). -/
structure Platform where
  first : State
  others : List State
  deriving DecidableEq, Repr

/-- The instances in order: number 0 is the first. -/
def Platform.units (p : Platform) : List State := p.first :: p.others

/-- NUM_INSTANCES (R11). -/
def Platform.numInstances (p : Platform) : Nat := p.units.length

/-- Instance `k` takes the given state; an index that names no instance changes nothing. -/
def Platform.setUnit (p : Platform) (k : Nat) (s : State) : Platform :=
  match k with
  | 0 => { p with first := s }
  | j + 1 => { p with others := p.others.set j s }

/-- One rising edge of instance `k`'s clock; an index that names no instance changes nothing. -/
def Platform.edge (p : Platform) (k : Nat) : Platform :=
  match p.units[k]? with
  | none => p
  | some s =>
    match step s with
    | .next t => p.setUnit k t
    | .fault _ => p
    | .refused _ => p

end Sys2Proof.Machine
end

