-- ==== Sys2Proof/Machine/Portable.lean ====
section
/-! DEFINITION. The two realizations of scatter and gather (00_scope R12; 41_bit_primitives R86 to R89). NATIVE routes each
bit (R80, R81). PORTABLE is the shift/mask networks of R88 and R89, which are informative. No operation can see which one
runs (R87), so the machine uses `scatter` and `gather`; that the networks agree with them on every valid input is stated
as obligations (log 13). -/

namespace Sys2Proof.Machine

/-- The (shift, mask) steps of the scatter network (R88). -/
def scatterSteps (w : Width) (d : Dim) : List (Nat × Nat) :=
  match w, d with
  | .w32, .d2 => [(8, 0x00FF00FF), (4, 0x0F0F0F0F), (2, 0x33333333), (1, 0x55555555)]
  | .w64, .d2 =>
    [(16, 0x0000FFFF0000FFFF), (8, 0x00FF00FF00FF00FF), (4, 0x0F0F0F0F0F0F0F0F), (2, 0x3333333333333333),
      (1, 0x5555555555555555)]
  | .w32, .d3 => [(16, 0x030000FF), (8, 0x0300F00F), (4, 0x030C30C3), (2, 0x09249249)]
  | .w64, .d3 =>
    [(32, 0x001F00000000FFFF), (16, 0x001F0000FF0000FF), (8, 0x100F00F00F00F00F), (4, 0x10C30C30C30C30C3),
      (2, 0x1249249249249249)]

/-- The (shift, mask) steps of the gather network (R89). -/
def gatherSteps (w : Width) (d : Dim) : List (Nat × Nat) :=
  match w, d with
  | .w32, .d2 => [(1, 0x33333333), (2, 0x0F0F0F0F), (4, 0x00FF00FF), (8, 0x0000FFFF)]
  | .w64, .d2 =>
    [(1, 0x3333333333333333), (2, 0x0F0F0F0F0F0F0F0F), (4, 0x00FF00FF00FF00FF), (8, 0x0000FFFF0000FFFF),
      (16, 0x00000000FFFFFFFF)]
  | .w32, .d3 => [(2, 0x030C30C3), (4, 0x0300F00F), (8, 0x030000FF), (16, 0x000003FF)]
  | .w64, .d3 =>
    [(2, 0x10C30C30C30C30C3), (4, 0x100F00F00F00F00F), (8, 0x001F0000FF0000FF), (16, 0x001F00000000FFFF),
      (32, 0x00000000001FFFFF)]

/-- One scatter step, `(x | (x << k)) & m` (R88). -/
def scatterStep {n : Nat} (x : BitVec n) (km : Nat × Nat) : BitVec n :=
  (x ||| (x <<< km.1)) &&& BitVec.ofNat n km.2

/-- One gather step, `(x ^ (x >> k)) & m` (R89). -/
def gatherStep {n : Nat} (x : BitVec n) (km : Nat × Nat) : BitVec n :=
  (x ^^^ (x >>> km.1)) &&& BitVec.ofNat n km.2

/-- The PORTABLE scatter into axis `ax` (R88). -/
def portableScatter (w : Width) (d : Dim) (ax : Nat) (s : BitVec w.bits) : BitVec w.bits :=
  (scatterSteps w d).foldl scatterStep s <<< ax

/-- The PORTABLE gather from axis `ax` (R89). -/
def portableGather (w : Width) (d : Dim) (ax : Nat) (c : BitVec w.bits) : BitVec w.bits :=
  (gatherSteps w d).foldl gatherStep ((c >>> ax) &&& mask w d 0)

/-- The scatter datapath of a build with the given IMPL_PATH (R12). -/
def datapathScatter (p : ImplPath) (w : Width) (d : Dim) (ax : Nat) (s : BitVec w.bits) : BitVec w.bits :=
  match p with
  | .native => scatter s (mask w d ax)
  | .portable => portableScatter w d ax s

/-- The gather datapath of a build with the given IMPL_PATH (R12). -/
def datapathGather (p : ImplPath) (w : Width) (d : Dim) (ax : Nat) (c : BitVec w.bits) : BitVec w.bits :=
  match p with
  | .native => gather c (mask w d ax)
  | .portable => portableGather w d ax c

end Sys2Proof.Machine
end

