-- ==== Sys2Proof/Safety.lean ====
section
/-! DEFINITION. What counts as a safe run, in the terms the obligations use: the host's duties, a request that meets its
preconditions, an unfaulted unit, and the invariant of the unit's state. -/

namespace Sys2Proof.Machine

/-- The request meets its operation's preconditions, or its word is illegal (R150, R157): it raises no violation. -/
def Request.meetsContract (q : Request) : Bool :=
  match decode q.op with
  | .error _ => true
  | .ok i =>
    match operate i.fields q.a q.b q.c with
    | .ok _ _ _ => true
    | .violation _ _ => false

/-- The unit is running, not halted by a contract violation (R22, R34). -/
def State.Safe (s : State) : Prop := s.faulted = false

/-- The host's duty of R177 at this edge: a request that is offered and not accepted stays on the wires, unchanged,
unless the host resets. The unit does not depend on it. -/
def State.hostHolds (s : State) : Prop :=
  s.port.rst = false → s.port.reqValid = true → s.reqReady = false →
    (nextPort s.script).rst = true ∨
      ((nextPort s.script).reqValid = true ∧ (nextPort s.script).op = s.port.op ∧
        (nextPort s.script).a = s.port.a ∧ (nextPort s.script).b = s.port.b ∧ (nextPort s.script).c = s.port.c)

/-- An answer the unit may give to a request in a mode: `respond` of it for some draw (R46, R158). -/
def Answers (mode : ContractMode) (q : Request) (r : Response) : Prop := ∃ any : Word64, r = respond mode any q

/-- The invariant of an instance between two edges. -/
structure State.Inv (s : State) : Prop where
  /-- |Q| ≤ QDEPTH (R24). -/
  depth : s.queue.length ≤ s.build.qdepth
  /-- FAULTED is 0 at all times in an UNCHECKED build (R22). -/
  unchecked : s.build.contractMode = .unchecked → s.faulted = false
  /-- DIAG is 0 until a violation is recorded (R23, R151). -/
  diagClear : s.faulted = false → s.diag = 0
  /-- A recorded DIAG names a condition, an operand and a legal word (R23, I17). -/
  diagSet : s.faulted = true → ∃ cond idx i, s.diag = diagWord cond idx (encode i)
  /-- A FAULT response in Q is the last entry, carries DIAG, and the unit is FAULTED (R22, R24, R152, R153).
  That nothing is accepted behind it is the transaction-level reading of R153 (log 6). -/
  faultLast : ∀ pre e post, s.queue = pre ++ e :: post → e.rsp.status = .fault →
    s.faulted = true ∧ post = [] ∧ e.rsp.r0 = s.diag
  /-- Every queued response answers its own request (R24, R46, R181). -/
  queued : ∀ e ∈ s.queue, Answers s.build.contractMode e.req e.rsp
  /-- Every delivered response answers its own request (R46). -/
  delivered : ∀ x ∈ s.answered, Answers s.build.contractMode x.req x.rsp
  /-- Availability is bounded (R180). -/
  waits : ∀ e ∈ s.queue, e.wait ≤ s.build.extraCycles + Config.slackBound
  /-- Every accepted request is answered, dropped or in Q (R179). -/
  counted : s.accepted = s.answered.length + s.dropped.length + s.queue.length

end Sys2Proof.Machine
end

