-- ==== Sys2Proof/Certificates/Slice0/Obligations.lean ====
section
/-! DEFINITION. The statements for the provers. The helpers under `Sys2Proof.Claims` say what a rule of the spec says in
its own terms (bits of a code, the record an accepted request leaves), so that a statement does not rest on the
definition it is about. -/

namespace Sys2Proof.Claims

open Sys2Proof.Machine

/-- `accept` is enabled (R176, R181): rst = 0, FAULTED = 0 and |Q| < QDEPTH. -/
def Ready (s : State) : Prop := s.port.rst = false ∧ s.faulted = false ∧ s.queue.length < s.build.qdepth

/-- The state after the request with word `op` on the wires is accepted and answered `r`: it joins the tail of Q and
is counted; every other field is as before. Its response becomes available LATENCY edges on plus the free bounded
delay (R180; log 7). -/
def accepts (s : State) (op : OpWord) (r : Response) : State :=
  { s with
    queue := s.queue ++
      [⟨⟨op, s.port.a, s.port.b, s.port.c⟩, r, s.build.latency + (Config.responseSlack s.accepted).val⟩]
    accepted := s.accepted + 1 }

/-- An OK response that writes R0 alone (R25, R59). -/
def okR0 (v : Word64) : Response := ⟨.ok, v, 0, 0⟩

/-- `P[W-1:0]` as a number (R14, R27). -/
def low (w : Nat) (p : Word64) : Nat := p.toNat % 2 ^ w

/-- DIAG of R152 for condition code `cond` and operand index `idx`, as a number: OPWORD from bit 16, OPIDX from bit 4,
COND from bit 0. -/
def diagOf (op : OpWord) (cond idx : Nat) : Word64 := BitVec.ofNat 64 (op.toNat * 65536 + idx * 16 + cond)

/-- What a contract violation does (R152, R153, R155). CHECKED: a FAULT response with R0 = DIAG, FAULTED and DIAG set.
UNCHECKED: an OK response with some W-bit value on R0, and nothing else. That FAULTED and DIAG are set as the request is
accepted is R153's transaction-level sentence and the model's choice for the edge (log 6). -/
def violates (s : State) (i : Instr) (op : OpWord) (w cond idx : Nat) : Prop :=
  (s.build.contractMode = .checked →
    exec i s = .next
      { accepts s op ⟨.fault, diagOf op cond idx, 0, 0⟩ with faulted := true, diag := diagOf op cond idx }) ∧
  (s.build.contractMode = .unchecked →
    ∃ v : Nat, v < 2 ^ w ∧ exec i s = .next (accepts s op (okR0 (BitVec.ofNat 64 v))))

/-- `v` holds, of the D-axis code with n bits per axis, the bits of axis `ax`, taken from `a` (R80, R107). -/
def scatters (n D ax : Nat) (a v : Word64) : Prop :=
  ∀ p < 64, v.getLsbD p = (decide (p % D = ax) && decide (p < D * n) && a.getLsbD (p / D))

/-- Bit k of `v` is bit D*k + ax of `code` for k < n, and the other bits are 0 (R81, R101). -/
def gathers (n D ax : Nat) (code v : Word64) : Prop :=
  ∀ k < 64, v.getLsbD k = (decide (k < n) && code.getLsbD (D * k + ax))

/-- Bit D*k + i of `code` is bit k of axis i for k < n, and the other bits are 0 (R107). -/
def interleaves (n D : Nat) (axes : List Word64) (code : Word64) : Prop :=
  ∀ p < 64, code.getLsbD p = (decide (p < D * n) && (axes.getD (p % D) 0).getLsbD (p / D))

/-- MCONST of one row (R76). -/
def constCase (s : State) (i : Instr) (op : OpWord) (m c u : Word64) : Prop :=
  exec i s = .next (accepts s op ⟨.ok, m, c, u⟩)

/-- BSCAT of one row (R84): code width W, n bits per axis. -/
def scatterCase (s : State) (i : Instr) (op : OpWord) (W n D ax : Nat) : Prop :=
  (low W s.port.a ≤ 2 ^ n - 1 →
    ∃ v, scatters n D ax s.port.a v ∧ exec i s = .next (accepts s op (okR0 v))) ∧
  (2 ^ n - 1 < low W s.port.a → violates s i op W 1 0)

/-- BGATH of one row (R85). -/
def gatherCase (s : State) (i : Instr) (op : OpWord) (n D ax : Nat) : Prop :=
  ∃ v, gathers n D ax s.port.a v ∧ exec i s = .next (accepts s op (okR0 v))

/-- MENC2 of one row (R102): A is checked before B. -/
def enc2Case (s : State) (i : Instr) (op : OpWord) (W n : Nat) : Prop :=
  (low W s.port.a ≤ 2 ^ n - 1 → low W s.port.b ≤ 2 ^ n - 1 →
    ∃ v, interleaves n 2 [s.port.a, s.port.b] v ∧ exec i s = .next (accepts s op (okR0 v))) ∧
  (2 ^ n - 1 < low W s.port.a → violates s i op W 1 0) ∧
  (low W s.port.a ≤ 2 ^ n - 1 → 2 ^ n - 1 < low W s.port.b → violates s i op W 1 1)

/-- MENC3 of one row (R103): A, then B, then C is checked. -/
def enc3Case (s : State) (i : Instr) (op : OpWord) (W n : Nat) : Prop :=
  (low W s.port.a ≤ 2 ^ n - 1 → low W s.port.b ≤ 2 ^ n - 1 → low W s.port.c ≤ 2 ^ n - 1 →
    ∃ v, interleaves n 3 [s.port.a, s.port.b, s.port.c] v ∧ exec i s = .next (accepts s op (okR0 v))) ∧
  (2 ^ n - 1 < low W s.port.a → violates s i op W 1 0) ∧
  (low W s.port.a ≤ 2 ^ n - 1 → 2 ^ n - 1 < low W s.port.b → violates s i op W 1 1) ∧
  (low W s.port.a ≤ 2 ^ n - 1 → low W s.port.b ≤ 2 ^ n - 1 → 2 ^ n - 1 < low W s.port.c →
    violates s i op W 1 2)

/-- MDEC2 of one row (R104). -/
def dec2Case (s : State) (i : Instr) (op : OpWord) (n : Nat) : Prop :=
  ∃ x y, gathers n 2 0 s.port.a x ∧ gathers n 2 1 s.port.a y ∧ exec i s = .next (accepts s op ⟨.ok, x, y, 0⟩)

/-- MDEC3 of one row (R105). -/
def dec3Case (s : State) (i : Instr) (op : OpWord) (n : Nat) : Prop :=
  ∃ x y z, gathers n 3 0 s.port.a x ∧ gathers n 3 1 s.port.a y ∧ gathers n 3 2 s.port.a z ∧
    exec i s = .next (accepts s op ⟨.ok, x, y, z⟩)

/-- The float on port P is in [0, 1] (R122). -/
def inUnit (t : FloatType) (p : Word64) : Prop := inrange t (floatOperand t p) = true

/-- The quantized coordinate of port P on 64 bits: the magnitude of the float, in units, times M, rounded once to T, and
truncated (R120). -/
def level (t : FloatType) (w : Width) (d : Dim) (p : Word64) : Word64 :=
  BitVec.ofNat 64 (roundUnits t (unitsOf t (floatOperand t p) * maxc w d) 1 / oneUnits t)

/-- The dequantized level on its result port: the pattern of RN_T(RN_T(q) / M), zero-extended (R121, R135). -/
def floatOut (t : FloatType) (w : Width) (d : Dim) (q : Nat) : Word64 :=
  BitVec.ofNat 64 (bitsOfUnits t (roundUnits t (roundUnits t (q * oneUnits t) 1) (maxc w d))).toNat

/-- QNT of one row (R124). -/
def quantCase (s : State) (i : Instr) (op : OpWord) (t : FloatType) (w : Width) (d : Dim) : Prop :=
  (inUnit t s.port.a → exec i s = .next (accepts s op (okR0 (level t w d s.port.a)))) ∧
  (¬ inUnit t s.port.a → violates s i op w.bits 2 0)

/-- DQNT of one row (R125). -/
def dequantCase (s : State) (i : Instr) (op : OpWord) (t : FloatType) (w : Width) (d : Dim) : Prop :=
  exec i s = .next (accepts s op (okR0 (floatOut t w d (low w.bits s.port.a))))

/-- FENC2 of one row (R126): A is checked before B. -/
def floatEnc2Case (s : State) (i : Instr) (op : OpWord) (t : FloatType) (w : Width) (n : Nat) : Prop :=
  (inUnit t s.port.a → inUnit t s.port.b →
    ∃ v, interleaves n 2 [level t w .d2 s.port.a, level t w .d2 s.port.b] v ∧
      exec i s = .next (accepts s op (okR0 v))) ∧
  (¬ inUnit t s.port.a → violates s i op w.bits 2 0) ∧
  (inUnit t s.port.a → ¬ inUnit t s.port.b → violates s i op w.bits 2 1)

/-- FENC3 of one row (R127): A, then B, then C is checked. -/
def floatEnc3Case (s : State) (i : Instr) (op : OpWord) (t : FloatType) (w : Width) (n : Nat) : Prop :=
  (inUnit t s.port.a → inUnit t s.port.b → inUnit t s.port.c →
    ∃ v, interleaves n 3 [level t w .d3 s.port.a, level t w .d3 s.port.b, level t w .d3 s.port.c] v ∧
      exec i s = .next (accepts s op (okR0 v))) ∧
  (¬ inUnit t s.port.a → violates s i op w.bits 2 0) ∧
  (inUnit t s.port.a → ¬ inUnit t s.port.b → violates s i op w.bits 2 1) ∧
  (inUnit t s.port.a → inUnit t s.port.b → ¬ inUnit t s.port.c → violates s i op w.bits 2 2)

/-- FDEC2 of one row (R128). -/
def floatDec2Case (s : State) (i : Instr) (op : OpWord) (t : FloatType) (w : Width) (n : Nat) : Prop :=
  ∃ x y, gathers n 2 0 s.port.a x ∧ gathers n 2 1 s.port.a y ∧
    exec i s = .next (accepts s op ⟨.ok, floatOut t w .d2 x.toNat, floatOut t w .d2 y.toNat, 0⟩)

/-- FDEC3 of one row (R129). -/
def floatDec3Case (s : State) (i : Instr) (op : OpWord) (t : FloatType) (w : Width) (n : Nat) : Prop :=
  ∃ x y z, gathers n 3 0 s.port.a x ∧ gathers n 3 1 s.port.a y ∧ gathers n 3 2 s.port.a z ∧
    exec i s = .next
      (accepts s op ⟨.ok, floatOut t w .d3 x.toNat, floatOut t w .d3 y.toNat, floatOut t w .d3 z.toNat⟩)

/-- How many set bits of the mask lie below position p: the index of p among the mask's positions (R80). -/
def rank {n : Nat} (m : BitVec n) (p : Nat) : Nat := ((List.range p).filter fun k => m.getLsbD k).length

/-- The pairs (T, W) of R8. -/
def legalPair (t : FloatType) (w : Width) : Prop := ¬ (t = .binary32 ∧ w = .w64)

/-- A magnitude in units that the significand of the type can hold (R16). -/
def representable (t : FloatType) (n : Nat) : Prop := ∃ c e, c < 2 ^ (fracBits t + 1) ∧ n = c * 2 ^ e

/-- The distance of num / den from n, times den. -/
def distance (num den n : Nat) : Nat := (num - n * den) + (n * den - num)

/-- The first `n` edges from `s` have rst = 0 and rsp_ready = 1. -/
def takesResponses (n : Nat) (s : State) : Prop :=
  n ≤ (s.port :: s.script).length ∧ ∀ p ∈ (s.port :: s.script).take n, p.rst = false ∧ p.rspReady = true

/-- An entry one edge on (R180). -/
def nearer (e : Entry) : Entry := { e with wait := e.wait - 1 }

/-- The (request, response) pair of an entry. -/
def exchange (e : Entry) : Exchange := ⟨e.req, e.rsp⟩

/-- The words of the opcode map (R61), class by class. -/
def tableWords : List Nat :=
  [0x1, 0x41, 0x11, 0x51, 0x21, 0x61, 0xA1, 0x31, 0x71, 0xB1]
    ++ [0x2, 0x42, 0x12, 0x52, 0x22, 0x62, 0xA2, 0x32, 0x72, 0xB2]
    ++ [0x3, 0x43, 0x13, 0x53, 0x23, 0x63, 0xA3, 0x33, 0x73, 0xB3]
    ++ [0x4, 0x14, 0x24, 0x34]
    ++ [0x5, 0x15, 0x25, 0x35]
    ++ [0x6, 0x26, 0x106, 0x116, 0x126, 0x136]
    ++ [0x7, 0x27, 0x107, 0x117, 0x127, 0x137]
    ++ [0x8, 0x28, 0x108, 0x118, 0x128, 0x138]
    ++ [0x9, 0x29, 0x109, 0x119, 0x129, 0x139]

end Sys2Proof.Claims

open Sys2Proof Sys2Proof.Machine Sys2Proof.Claims

/-- Decoding and encoding agree on every word and every row (R57, R61, R67): each row has one word and each word at
most one row. -/
def Obligations.DecodeInvertsEncode : Prop :=
  ∀ (op : OpWord) (i : Instr), decode op = .ok i ↔ op = encode i

/-- R57 and R61 describe the same 62 words, and the decoder accepts exactly these (R62). -/
def Obligations.LegalWordsAreTheTable : Prop :=
  tableWords.length = 62 ∧ tableWords.Nodup ∧
  ∀ op : OpWord,
    (legal op = true ↔ op.toNat ∈ tableWords) ∧ ((∃ i, decode op = .ok i) ↔ op.toNat ∈ tableWords)

/-- One word of each class, its fields RES, T, AX, D, W and OPC written out in bits (R50, R51). -/
def Obligations.SampleWordsDecode : Prop :=
    decode (0b00000000000000000000000_0_10_1_1_0001 : OpWord) = .ok .mconstD3W64A2 ∧
    decode (0b00000000000000000000000_0_01_0_1_0010 : OpWord) = .ok .bscatD2W64A1 ∧
    decode (0b00000000000000000000000_0_00_1_0_0011 : OpWord) = .ok .bgathD3W32A0 ∧
    decode (0b00000000000000000000000_0_00_0_0_0100 : OpWord) = .ok .menc2W32 ∧
    decode (0b00000000000000000000000_0_00_1_1_0101 : OpWord) = .ok .mdec3W64 ∧
    decode (0b00000000000000000000000_0_00_1_0_0110 : OpWord) = .ok .qntD3F32W32 ∧
    decode (0b00000000000000000000000_1_00_0_1_0111 : OpWord) = .ok .dqntD2F64W64 ∧
    decode (0b00000000000000000000000_1_00_1_0_1000 : OpWord) = .ok .fenc3F64W32 ∧
    decode (0b00000000000000000000000_1_00_0_1_1001 : OpWord) = .ok .fdec2F64W64

/-- The mapping from mnemonic to row is one to one (R64). -/
def Obligations.MnemonicsAreOneToOne : Prop :=
  (∀ i : Instr, instrNamed (mnemonic i) = some i) ∧ ∀ i j : Instr, mnemonic i = mnemonic j → i = j

/-- R70: bit p of `mask(W, D, i)` is 1 exactly when p mod D = i and p < D × floor(W/D). -/
def Obligations.MaskBitsByPosition : Prop :=
  (axisBits .w32 .d2 = 16 ∧ axisBits .w64 .d2 = 32 ∧ axisBits .w32 .d3 = 10 ∧ axisBits .w64 .d3 = 21) ∧
  ∀ (w : Width) (d : Dim) (i p : Nat), i < d.axes →
    ((mask w d i).getLsbD p = true ↔ p % d.axes = i ∧ p < d.axes * (w.bits / d.axes))

/-- The values of R73. -/
def Obligations.MaskTableValues : Prop :=
    (mask .w32 .d2 0 = 0x55555555 ∧ popcount (mask .w32 .d2 0) = 16 ∧ (mask .w32 .d2 0).toNat.log2 = 30) ∧
    (mask .w32 .d2 1 = 0xAAAAAAAA ∧ popcount (mask .w32 .d2 1) = 16 ∧ (mask .w32 .d2 1).toNat.log2 = 31) ∧
    (mask .w32 .d3 0 = 0x9249249 ∧ popcount (mask .w32 .d3 0) = 10 ∧ (mask .w32 .d3 0).toNat.log2 = 27) ∧
    (mask .w32 .d3 1 = 0x12492492 ∧ popcount (mask .w32 .d3 1) = 10 ∧ (mask .w32 .d3 1).toNat.log2 = 28) ∧
    (mask .w32 .d3 2 = 0x24924924 ∧ popcount (mask .w32 .d3 2) = 10 ∧ (mask .w32 .d3 2).toNat.log2 = 29) ∧
    (mask .w64 .d2 0 = 0x5555555555555555 ∧ popcount (mask .w64 .d2 0) = 32 ∧ (mask .w64 .d2 0).toNat.log2 = 62) ∧
    (mask .w64 .d2 1 = 0xAAAAAAAAAAAAAAAA ∧ popcount (mask .w64 .d2 1) = 32 ∧ (mask .w64 .d2 1).toNat.log2 = 63) ∧
    (mask .w64 .d3 0 = 0x1249249249249249 ∧ popcount (mask .w64 .d3 0) = 21 ∧ (mask .w64 .d3 0).toNat.log2 = 60) ∧
    (mask .w64 .d3 1 = 0x2492492492492492 ∧ popcount (mask .w64 .d3 1) = 21 ∧ (mask .w64 .d3 1).toNat.log2 = 61) ∧
    (mask .w64 .d3 2 = 0x4924924924924924 ∧ popcount (mask .w64 .d3 2) = 21 ∧ (mask .w64 .d3 2).toNat.log2 = 62) ∧
    (maxc .w32 .d2 = 0xFFFF ∧ used .w32 .d2 = 0xFFFFFFFF) ∧
    (maxc .w64 .d2 = 0xFFFFFFFF ∧ used .w64 .d2 = 0xFFFFFFFFFFFFFFFF) ∧
    (maxc .w32 .d3 = 0x3FF ∧ used .w32 .d3 = 0x3FFFFFFF) ∧
    (maxc .w64 .d3 = 0x1FFFFF ∧ used .w64 .d3 = 0x7FFFFFFFFFFFFFFF)

/-- R74: disjoint masks whose OR is `used(W, D)`, each a shift of the first. R75: the width of an axis. -/
def Obligations.MasksPartitionAndAxisWidth : Prop :=
  ∀ (w : Width) (d : Dim),
    (∀ i j, i < d.axes → j < d.axes → i ≠ j → mask w d i &&& mask w d j = 0) ∧
    ((List.range d.axes).foldl (fun u i => u ||| mask w d i) 0 = used w d) ∧
    ∀ i, i < d.axes →
      mask w d i = mask w d 0 <<< i ∧
      popcount (mask w d i) = w.bits / d.axes ∧
      maxc w d = 2 ^ popcount (mask w d i) - 1 ∧
      ∀ s : BitVec w.bits, (∀ k, popcount (mask w d i) ≤ k → s.getLsbD k = false) ↔ s.toNat ≤ maxc w d

/-- MCONST (R76), all ten rows, with the values of R73: mconstD2W32A0, mconstD2W32A1, mconstD2W64A0, mconstD2W64A1,
mconstD3W32A0 to A2, mconstD3W64A0 to A2. -/
def Obligations.MconstReturnsAxisConstants : Prop :=
  ∀ s : State, Ready s →
    constCase s .mconstD2W32A0 0x001 0x55555555 0xFFFF 0xFFFFFFFF ∧
    constCase s .mconstD2W32A1 0x041 0xAAAAAAAA 0xFFFF 0xFFFFFFFF ∧
    constCase s .mconstD2W64A0 0x011 0x5555555555555555 0xFFFFFFFF 0xFFFFFFFFFFFFFFFF ∧
    constCase s .mconstD2W64A1 0x051 0xAAAAAAAAAAAAAAAA 0xFFFFFFFF 0xFFFFFFFFFFFFFFFF ∧
    constCase s .mconstD3W32A0 0x021 0x9249249 0x3FF 0x3FFFFFFF ∧
    constCase s .mconstD3W32A1 0x061 0x12492492 0x3FF 0x3FFFFFFF ∧
    constCase s .mconstD3W32A2 0x0A1 0x24924924 0x3FF 0x3FFFFFFF ∧
    constCase s .mconstD3W64A0 0x031 0x1249249249249249 0x1FFFFF 0x7FFFFFFFFFFFFFFF ∧
    constCase s .mconstD3W64A1 0x071 0x2492492492492492 0x1FFFFF 0x7FFFFFFFFFFFFFFF ∧
    constCase s .mconstD3W64A2 0x0B1 0x4924924924924924 0x1FFFFF 0x7FFFFFFFFFFFFFFF

/-- R80, for any width and any mask. -/
def Obligations.ScatterPlacesBitsInOrder : Prop :=
  ∀ (n : Nat) (s m : BitVec n) (p : Nat),
    (scatter s m).getLsbD p = (m.getLsbD p && s.getLsbD (rank m p))

/-- R81, for any width and any mask. -/
def Obligations.GatherPacksBitsInOrder : Prop :=
  ∀ (n : Nat) (s m : BitVec n),
    (∀ p, m.getLsbD p = true → (gather s m).getLsbD (rank m p) = s.getLsbD p) ∧
    (∀ j, popcount m ≤ j → (gather s m).getLsbD j = false)

/-- The five laws of R82. -/
def Obligations.ScatterGatherLaws : Prop :=
  (∀ (n : Nat) (s c m : BitVec n),
    (s.toNat < 2 ^ popcount m → gather (scatter s m) m = s) ∧
    scatter (gather c m) m = c &&& m ∧
    scatter s m &&& ~~~m = 0 ∧
    gather c m = gather (c &&& m) m) ∧
  ∀ (w : Width) (d : Dim) (i : Nat) (s c : BitVec w.bits), i < d.axes →
    scatter s (mask w d i) = scatter s (mask w d 0) <<< i ∧
    gather c (mask w d i) = gather (c >>> i) (mask w d 0)

/-- IMPL_PATH is not observable (R12, R87): both realizations agree on every valid input (R86). The networks are those
of R88 and R89. -/
def Obligations.DatapathsAgree : Prop :=
  ∀ (p q : ImplPath) (w : Width) (d : Dim) (ax : Nat) (s c : BitVec w.bits), ax < d.axes →
    (s.toNat ≤ maxc w d → datapathScatter p w d ax s = datapathScatter q w d ax s) ∧
    datapathGather p w d ax c = datapathGather q w d ax c

/-- BSCAT (R84), all ten rows: bscatD2W32A0, A1, bscatD2W64A0, A1, bscatD3W32A0 to A2, bscatD3W64A0 to A2. The last
clause rests on a free value (log 8) and holds for each. -/
def Obligations.BscatScattersOrViolates : Prop :=
  ∀ s : State, Ready s →
    scatterCase s .bscatD2W32A0 0x002 32 16 2 0 ∧
    scatterCase s .bscatD2W32A1 0x042 32 16 2 1 ∧
    scatterCase s .bscatD2W64A0 0x012 64 32 2 0 ∧
    scatterCase s .bscatD2W64A1 0x052 64 32 2 1 ∧
    scatterCase s .bscatD3W32A0 0x022 32 10 3 0 ∧
    scatterCase s .bscatD3W32A1 0x062 32 10 3 1 ∧
    scatterCase s .bscatD3W32A2 0x0A2 32 10 3 2 ∧
    scatterCase s .bscatD3W64A0 0x032 64 21 3 0 ∧
    scatterCase s .bscatD3W64A1 0x072 64 21 3 1 ∧
    scatterCase s .bscatD3W64A2 0x0B2 64 21 3 2

/-- BGATH (R85), all ten rows: bgathD2W32A0, A1, bgathD2W64A0, A1, bgathD3W32A0 to A2, bgathD3W64A0 to A2. There is no
precondition. -/
def Obligations.BgathGathers : Prop :=
  ∀ s : State, Ready s →
    gatherCase s .bgathD2W32A0 0x003 16 2 0 ∧
    gatherCase s .bgathD2W32A1 0x043 16 2 1 ∧
    gatherCase s .bgathD2W64A0 0x013 32 2 0 ∧
    gatherCase s .bgathD2W64A1 0x053 32 2 1 ∧
    gatherCase s .bgathD3W32A0 0x023 10 3 0 ∧
    gatherCase s .bgathD3W32A1 0x063 10 3 1 ∧
    gatherCase s .bgathD3W32A2 0x0A3 10 3 2 ∧
    gatherCase s .bgathD3W64A0 0x033 21 3 0 ∧
    gatherCase s .bgathD3W64A1 0x073 21 3 1 ∧
    gatherCase s .bgathD3W64A2 0x0B3 21 3 2

/-- MENC (R102, R103): menc2W32, menc2W64, menc3W32, menc3W64. The UNCHECKED clauses rest on a free value (log 8) and
hold for each. -/
def Obligations.MencInterleavesOrViolates : Prop :=
  ∀ s : State, Ready s →
    enc2Case s .menc2W32 0x004 32 16 ∧
    enc2Case s .menc2W64 0x014 64 32 ∧
    enc3Case s .menc3W32 0x024 32 10 ∧
    enc3Case s .menc3W64 0x034 64 21

/-- MDEC (R104, R105): mdec2W32, mdec2W64, mdec3W32, mdec3W64. There is no precondition on the code. -/
def Obligations.MdecDeinterleaves : Prop :=
  ∀ s : State, Ready s →
    dec2Case s .mdec2W32 0x005 16 ∧
    dec2Case s .mdec2W64 0x015 32 ∧
    dec3Case s .mdec3W32 0x025 10 ∧
    dec3Case s .mdec3W64 0x035 21

/-- R100; bit k of axis i lands at code bit D*k + i. -/
def Obligations.EncodeTermsCombineAlike : Prop :=
  (∀ (w : Width) (x y : BitVec w.bits), x.toNat ≤ maxc w .d2 → y.toNat ≤ maxc w .d2 →
    enc2 w x y = scatter x (mask w .d2 0) ||| scatter y (mask w .d2 1) ∧
    enc2 w x y = scatter x (mask w .d2 0) ^^^ scatter y (mask w .d2 1) ∧
    enc2 w x y = scatter x (mask w .d2 0) + scatter y (mask w .d2 1) ∧
    ∀ k, k < axisBits w .d2 →
      (enc2 w x y).getLsbD (2 * k) = x.getLsbD k ∧ (enc2 w x y).getLsbD (2 * k + 1) = y.getLsbD k) ∧
  (∀ (w : Width) (x y z : BitVec w.bits), x.toNat ≤ maxc w .d3 → y.toNat ≤ maxc w .d3 → z.toNat ≤ maxc w .d3 →
    enc3 w x y z = scatter x (mask w .d3 0) ||| scatter y (mask w .d3 1) ||| scatter z (mask w .d3 2) ∧
    enc3 w x y z = scatter x (mask w .d3 0) ^^^ scatter y (mask w .d3 1) ^^^ scatter z (mask w .d3 2) ∧
    enc3 w x y z = scatter x (mask w .d3 0) + scatter y (mask w .d3 1) + scatter z (mask w .d3 2) ∧
    ∀ k, k < axisBits w .d3 →
      (enc3 w x y z).getLsbD (3 * k) = x.getLsbD k ∧ (enc3 w x y z).getLsbD (3 * k + 1) = y.getLsbD k ∧
      (enc3 w x y z).getLsbD (3 * k + 2) = z.getLsbD k)

/-- R107, for both widths and dimensions and every coordinate. -/
def Obligations.CodeLayout : Prop :=
  ∀ w : Width,
    (∀ (x y : BitVec w.bits) (p : Nat), (enc2 w x y).getLsbD p =
      (decide (p < 2 * axisBits w .d2) && (if p % 2 = 0 then x else y).getLsbD (p / 2))) ∧
    (∀ (x y z : BitVec w.bits) (p : Nat), (enc3 w x y z).getLsbD p =
      (decide (p < 3 * axisBits w .d3) && (if p % 3 = 0 then x else if p % 3 = 1 then y else z).getLsbD (p / 3))) ∧
    (∀ (d : Dim) (i : Nat) (code other : BitVec w.bits), i < d.axes →
      (∀ p, p < d.axes * axisBits w d → code.getLsbD p = other.getLsbD p) →
      decAxis w d i code = decAxis w d i other) ∧
    (∀ (d : Dim) (i k : Nat) (code : BitVec w.bits), i < d.axes → k < axisBits w d →
      (decAxis w d i code).getLsbD k = code.getLsbD (d.axes * k + i)) ∧
    enc2 w 1 0 = 1 ∧ enc2 w 0 1 = 2

/-- R106, both directions. -/
def Obligations.EncodeDecodeRoundTrip : Prop :=
  ∀ w : Width,
    (∀ x y : BitVec w.bits, x.toNat ≤ maxc w .d2 → y.toNat ≤ maxc w .d2 →
      decAxis w .d2 0 (enc2 w x y) = x ∧ decAxis w .d2 1 (enc2 w x y) = y) ∧
    (∀ x y z : BitVec w.bits, x.toNat ≤ maxc w .d3 → y.toNat ≤ maxc w .d3 → z.toNat ≤ maxc w .d3 →
      decAxis w .d3 0 (enc3 w x y z) = x ∧ decAxis w .d3 1 (enc3 w x y z) = y ∧ decAxis w .d3 2 (enc3 w x y z) = z) ∧
    ∀ code : BitVec w.bits,
      enc2 w (decAxis w .d2 0 code) (decAxis w .d2 1 code) = code &&& used w .d2 ∧
      enc3 w (decAxis w .d3 0 code) (decAxis w .d3 1 code) (decAxis w .d3 2 code) = code &&& used w .d3

/-- R109, for each axis. -/
def Obligations.AxisChangesOnlyItsOwnBits : Prop :=
  ∀ (w : Width) (x y z : BitVec w.bits),
    enc2 w x y ^^^ enc2 w 0 y = scatter x (mask w .d2 0) ∧
    enc2 w x y ^^^ enc2 w x 0 = scatter y (mask w .d2 1) ∧
    enc3 w x y z ^^^ enc3 w 0 y z = scatter x (mask w .d3 0) ∧
    enc3 w x y z ^^^ enc3 w x 0 z = scatter y (mask w .d3 1) ∧
    enc3 w x y z ^^^ enc3 w x y 0 = scatter z (mask w .d3 2)

/-- R16: `RN_T` is round to nearest, ties to even. Distances are multiplied by den. -/
def Obligations.RoundingIsNearestTiesToEven : Prop :=
  ∀ (t : FloatType) (num den : Nat), 0 < den →
    representable t (roundUnits t num den) ∧
    ∀ m, representable t m →
      distance num den (roundUnits t num den) ≤ distance num den m ∧
      (m ≠ roundUnits t num den → distance num den m = distance num den (roundUnits t num den) →
        ∃ c, roundUnits t num den = 2 * c * 2 ^ lastPlace t (num / den))

/-- R16: `bits_T` and `real_T` on nonnegative finite values, subnormals included. -/
def Obligations.FloatPatternsHoldTheirUnits : Prop :=
  ∀ t : FloatType,
    (∀ n, representable t n → n < overflowUnits t → realOf t (bitsOfUnits t n) = .finite false n) ∧
    (∀ v n, realOf t v = .finite false n → representable t n ∧ n < overflowUnits t ∧ bitsOfUnits t n = v)

/-- R122, by bit pattern. -/
def Obligations.RangePredicateByPattern : Prop :=
  (∀ v : BitVec 32, inrange .binary32 v = true ↔ v.toNat ≤ 0x3F800000 ∨ v.toNat = 0x80000000) ∧
  (∀ v : BitVec 64, inrange .binary64 v = true ↔ v.toNat ≤ 0x3FF0000000000000 ∨ v.toNat = 0x8000000000000000)

/-- R123. -/
def Obligations.ScaleIsExact : Prop :=
  (maxc .w32 .d2 = 65535 ∧ maxc .w32 .d3 = 1023 ∧ maxc .w64 .d2 = 4294967295 ∧ maxc .w64 .d3 = 2097151) ∧
  (∀ d, maxc .w32 d < 2 ^ 24) ∧ (∀ w d, maxc w d < 2 ^ 53) ∧
  (∀ t w d, legalPair t w → roundUnits t (maxc w d * oneUnits t) 1 = maxc w d * oneUnits t) ∧
  roundUnits .binary32 (2097151 * oneUnits .binary32) 1 = 2097151 * oneUnits .binary32 ∧
  roundUnits .binary32 (4294967295 * oneUnits .binary32) 1 ≠ 4294967295 * oneUnits .binary32

/-- QNT (R124): qntD2F32W32, qntD3F32W32, qntD2F64W32, qntD2F64W64, qntD3F64W32, qntD3F64W64. The UNCHECKED clause
rests on a free value (log 8) and holds for each. -/
def Obligations.QntQuantizesOrViolates : Prop :=
  ∀ s : State, Ready s →
    quantCase s .qntD2F32W32 0x006 .binary32 .w32 .d2 ∧
    quantCase s .qntD3F32W32 0x026 .binary32 .w32 .d3 ∧
    quantCase s .qntD2F64W32 0x106 .binary64 .w32 .d2 ∧
    quantCase s .qntD2F64W64 0x116 .binary64 .w64 .d2 ∧
    quantCase s .qntD3F64W32 0x126 .binary64 .w32 .d3 ∧
    quantCase s .qntD3F64W64 0x136 .binary64 .w64 .d3

/-- DQNT (R125): dqntD2F32W32, dqntD3F32W32, dqntD2F64W32, dqntD2F64W64, dqntD3F64W32, dqntD3F64W64. There is no
precondition. -/
def Obligations.DqntDequantizes : Prop :=
  ∀ s : State, Ready s →
    dequantCase s .dqntD2F32W32 0x007 .binary32 .w32 .d2 ∧
    dequantCase s .dqntD3F32W32 0x027 .binary32 .w32 .d3 ∧
    dequantCase s .dqntD2F64W32 0x107 .binary64 .w32 .d2 ∧
    dequantCase s .dqntD2F64W64 0x117 .binary64 .w64 .d2 ∧
    dequantCase s .dqntD3F64W32 0x127 .binary64 .w32 .d3 ∧
    dequantCase s .dqntD3F64W64 0x137 .binary64 .w64 .d3

/-- FENC (R126, R127): fenc2F32W32, fenc2F64W32, fenc2F64W64, fenc3F32W32, fenc3F64W32, fenc3F64W64. The UNCHECKED
clauses rest on a free value (log 8) and hold for each. -/
def Obligations.FencEncodesLevelsOrViolates : Prop :=
  ∀ s : State, Ready s →
    floatEnc2Case s .fenc2F32W32 0x008 .binary32 .w32 16 ∧
    floatEnc2Case s .fenc2F64W32 0x108 .binary64 .w32 16 ∧
    floatEnc2Case s .fenc2F64W64 0x118 .binary64 .w64 32 ∧
    floatEnc3Case s .fenc3F32W32 0x028 .binary32 .w32 10 ∧
    floatEnc3Case s .fenc3F64W32 0x128 .binary64 .w32 10 ∧
    floatEnc3Case s .fenc3F64W64 0x138 .binary64 .w64 21

/-- FDEC (R128, R129): fdec2F32W32, fdec2F64W32, fdec2F64W64, fdec3F32W32, fdec3F64W32, fdec3F64W64. There is no
precondition on the code. -/
def Obligations.FdecDecodesToFloats : Prop :=
  ∀ s : State, Ready s →
    floatDec2Case s .fdec2F32W32 0x009 .binary32 .w32 16 ∧
    floatDec2Case s .fdec2F64W32 0x109 .binary64 .w32 16 ∧
    floatDec2Case s .fdec2F64W64 0x119 .binary64 .w64 32 ∧
    floatDec3Case s .fdec3F32W32 0x029 .binary32 .w32 10 ∧
    floatDec3Case s .fdec3F64W32 0x129 .binary64 .w32 10 ∧
    floatDec3Case s .fdec3F64W64 0x139 .binary64 .w64 21

/-- R134. -/
def Obligations.QuantStaysWithinScale : Prop :=
  ∀ t w d v, legalPair t w → inrange t v = true →
    0 ≤ quant t w d v ∧ quant t w d v ≤ maxc w d ∧
    (quantCoord t w d v).toNat = quant t w d v ∧ coordOk w d (quantCoord t w d v) = true

/-- The table of R132. `one` is the pattern of 1.0 and `sign` that of -0.0. -/
def Obligations.SpecialFloatsQuantize : Prop :=
  ∀ t w d, legalPair t w →
    let one := (2 ^ (expBits t - 1) - 1) * 2 ^ fracBits t
    let sign := 2 ^ (floatBits t - 1)
    let q := fun n => quant t w d (BitVec.ofNat (floatBits t) n)
    let ok := fun n => inrange t (BitVec.ofNat (floatBits t) n)
    (ok 0 = true ∧ q 0 = 0) ∧
    (ok sign = true ∧ q sign = 0) ∧
    (∀ f, 0 < f → f < 2 ^ fracBits t → ok f = true ∧ q f = 0) ∧
    (ok one = true ∧ q one = maxc w d) ∧
    (ok (one - 1) = true ∧ q (one - 1) = maxc w d - 1) ∧
    (∀ n, one < n → n < sign → ok n = false) ∧
    (∀ n, sign < n → n < 2 * sign → ok n = false)

/-- R121: never NaN, infinite or negative, and the values at the ends. -/
def Obligations.DequantIsFiniteAndExactAtEnds : Prop :=
  ∀ t w d q, legalPair t w → q < 2 ^ w.bits →
    realOf t (dequant t w d q) =
      .finite false (roundUnits t (roundUnits t (q * oneUnits t) 1) (maxc w d)) ∧
    (q = 0 → dequant t w d q = 0) ∧
    (q = maxc w d → realOf t (dequant t w d q) = .finite false (oneUnits t)) ∧
    (q ≤ maxc w d → unitsOf t (dequant t w d q) ≤ oneUnits t) ∧
    (q < 2 ^ (fracBits t + 1) → roundUnits t (q * oneUnits t) 1 = q * oneUnits t)

/-- R130. The spec checked the bound by computation; it is stated here for every input. -/
def Obligations.QuantizationBound : Prop :=
  ∀ t w d v, legalPair t w → inrange t v = true →
    let back := unitsOf t (dequant t w d (quant t w d v))
    ((back - unitsOf t v) + (unitsOf t v - back)) * maxc w d ≤ oneUnits t

/-- R131. The spec checked it by computation; it is stated here for every level and every code. -/
def Obligations.LevelsSurviveTheFloatRoundTrip : Prop :=
  (∀ t w d q, legalPair t w → q ≤ maxc w d → quant t w d (dequant t w d q) = q) ∧
  ∀ (t : FloatType) (w : Width) (code : BitVec w.bits), legalPair t w →
    let back := fun d i => quantCoord t w d (dequant t w d (decAxis w d i code).toNat)
    enc2 w (back .d2 0) (back .d2 1) = code &&& used w .d2 ∧
    enc3 w (back .d3 0) (back .d3 1) (back .d3 2) = code &&& used w .d3

/-- R27, with the ports of R58. QNT and FENC read floats; every other class that reads ports reads integers. -/
def Obligations.UnreadOperandBitsAreIgnored : Prop :=
  ∀ (f : Fields) (a b c a' b' c' : Word64), f.wellFormed = true →
    let wide : Bool := match f.cls with
      | .qnt | .fenc => f.t == .binary64
      | .mconst | .bscat | .bgath | .menc | .mdec | .dqnt | .fdec => f.w == .w64
    let same := fun (k : Nat) (x y : Word64) =>
      k < portsRead f → if wide then x = y else x.setWidth 32 = y.setWidth 32
    same 0 a a' → same 1 b b' → same 2 c c' → operate f a b c = operate f a' b' c'

/-- R25 and R59 on results, for every class. -/
def Obligations.UnwrittenPortsAreZero : Prop :=
  ∀ (f : Fields) (a b c r0 r1 r2 : Word64), f.wellFormed = true → operate f a b c = .ok r0 r1 r2 →
    let narrow : Bool := match f.cls with
      | .dqnt | .fdec => f.t == .binary32
      | .mconst | .bscat | .bgath | .menc | .mdec | .qnt | .fenc => f.w == .w32
    (portsWritten f ≤ 1 → r1 = 0) ∧ (portsWritten f ≤ 2 → r2 = 0) ∧
    (narrow = true → r0.toNat < 2 ^ 32 ∧ r1.toNat < 2 ^ 32 ∧ r2.toNat < 2 ^ 32)

/-- The DIAG layout of R23 with the codes of R151. -/
def Obligations.DiagFieldsReadBack : Prop :=
  ∀ (cond : Cond) (idx : OperandIndex) (op : OpWord),
    diagCond (diagWord cond idx op) = (match cond with | .coordRange => 1 | .floatRange => 2) ∧
    diagOperand (diagWord cond idx op) = (match idx with | .a => 0 | .b => 1 | .c => 2) ∧
    diagOpWord (diagWord cond idx op) = op ∧
    (diagWord cond idx op).extractLsb' 6 10 = 0 ∧ (diagWord cond idx op).extractLsb' 48 16 = 0

/-- R159. `meetsContract` is that the operation raises no violation of R150. -/
def Obligations.ContractMetMeansOk : Prop :=
  (∀ (i : Instr) (s : State), Ready s →
    Request.meetsContract ⟨encode i, s.port.a, s.port.b, s.port.c⟩ = true →
    ∃ r0 r1 r2, exec i s = .next (accepts s (encode i) ⟨.ok, r0, r1, r2⟩)) ∧
  ∀ s : State, ∃ t, step s = .next t

/-- R154. The older responses and the FAULT response are the entries of Q. That `exec` leaves the state of a unit that
accepts nothing is the model's choice (log 10). -/
def Obligations.FaultedUnitAcceptsNothing : Prop :=
  ∀ s : State, s.faulted = true →
    s.outputs.reqReady = false ∧ (∀ i, exec i s = .next s) ∧
    (s.queue = [] → s.outputs.rspValid = false) ∧
    (s.port.rst = false → ∃ t, step s = .next t ∧ t.faulted = true ∧ t.diag = s.diag ∧ t.accepted = s.accepted ∧
      t.answered ++ t.queue.map exchange = s.answered ++ s.queue.map exchange ∧
      (∀ e rest, s.queue = e :: rest → e.wait = 0 → s.port.rspReady = true →
        t.answered = s.answered ++ [exchange e]))

/-- R22, R161, R162: the only events that change the control state. That FAULTED rises at the very edge that accepts
the violating word is the model's choice (log 6): R153 says so of the transaction-level model, and lets a cycle-level
unit detect the violation later. -/
def Obligations.OnlyAViolationFaultsOnlyResetClears : Prop :=
  ∀ s t : State, step s = .next t →
    (s.faulted = false → t.faulted = true →
      s.build.contractMode = .checked ∧ s.port.rst = false ∧ s.port.reqValid = true ∧
      ∃ i cond idx, decode s.port.op = .ok i ∧
        operate i.fields s.port.a s.port.b s.port.c = .violation cond idx ∧
        t.diag = diagWord cond idx s.port.op) ∧
    (s.faulted = true → (t.faulted = false ↔ s.port.rst = true)) ∧
    (s.port.rst = false → t.faulted = s.faulted → t.diag = s.diag) ∧
    (s.build.contractMode = .unchecked → s.faulted = false → t.faulted = false) ∧
    (s.Safe → s.port.reqValid = false ∨ Request.meetsContract ⟨s.port.op, s.port.a, s.port.b, s.port.c⟩ = true →
      t.Safe)

/-- R157 and R158, through the step, in both cases of the response channel (R178). -/
def Obligations.IllegalWordIsAnsweredIllegal : Prop :=
  ∀ s why, Ready s → s.port.reqValid = true → decode s.port.op = .error why →
    let accepted := accepts s s.port.op ⟨.illegal, 0, 0, 0⟩
    ∃ t pre e, step s = .next t ∧
      t = (match s.queue with
        | [] => accepted.tick
        | h :: _ => if h.wait = 0 ∧ s.port.rspReady = true then accepted.deliver.tick else accepted.tick) ∧
      t.queue = pre ++ [e] ∧ e.req = ⟨s.port.op, s.port.a, s.port.b, s.port.c⟩ ∧
      e.rsp = ⟨.illegal, 0, 0, 0⟩ ∧ t.faulted = s.faulted ∧ t.faulted = false ∧ t.diag = s.diag

/-- The guard of `accept` (R181) on every instruction. That `exec` then leaves the state is the model's choice (log
10). -/
def Obligations.OperationsWaitWhenNotReady : Prop :=
  ∀ (i : Instr) (s : State),
    s.port.rst = true ∨ s.faulted = true ∨ s.build.qdepth ≤ s.queue.length → exec i s = .next s

/-- The frame of all 62 instructions. -/
def Obligations.OperationFrame : Prop :=
  ∀ (i : Instr) (s t : State), exec i s = .next t →
    t.port = s.port ∧ t.script = s.script ∧ t.build = s.build ∧ t.answered = s.answered ∧
    t.dropped = s.dropped ∧ t.edges = s.edges ∧
    (t.queue = s.queue ∨ ∃ e, t.queue = s.queue ++ [e] ∧ e.req = ⟨encode i, s.port.a, s.port.b, s.port.c⟩) ∧
    ((t.faulted = s.faulted ∧ t.diag = s.diag) ∨
      (s.build.contractMode = .checked ∧ t.faulted = true ∧
        ∃ cond idx, operate i.fields s.port.a s.port.b s.port.c = .violation cond idx ∧
          t.diag = diagWord cond idx (encode i))) ∧
    (i.fields.cls ∈ [OpClass.mconst, .bgath, .mdec, .dqnt, .fdec] → t.faulted = s.faulted ∧ t.diag = s.diag)

/-- R46 item 2, R182: no hazards between requests. -/
def Obligations.ResponseDependsOnItsRequestAlone : Prop :=
  ∀ (i : Instr) (s s' : State), Ready s → Ready s' → s.build.contractMode = s'.build.contractMode →
    s.port.a = s'.port.a → s.port.b = s'.port.b → s.port.c = s'.port.c →
    ∃ t t' e e', exec i s = .next t ∧ exec i s' = .next t' ∧
      t.queue = s.queue ++ [e] ∧ t'.queue = s'.queue ++ [e'] ∧
      e.rsp.status = e'.rsp.status ∧ e.rsp.r1 = e'.rsp.r1 ∧ e.rsp.r2 = e'.rsp.r2 ∧
      (s.build.contractMode = .checked ∨
        Request.meetsContract ⟨encode i, s.port.a, s.port.b, s.port.c⟩ = true → e.rsp = e'.rsp)

/-- What `step` adds around `exec`, in the model's own operations. -/
def Obligations.StepRunsTheOfferedRequest : Prop :=
  ∀ s : State, s.port.rst = false →
    let after := fun t : State =>
      match s.queue with
      | [] => t.tick
      | e :: _ => if e.wait = 0 ∧ s.port.rspReady = true then t.deliver.tick else t.tick
    (∀ i, s.port.reqValid = true → decode s.port.op = .ok i →
      ∃ t, exec i s = .next t ∧ step s = .next (after t)) ∧
    (s.port.reqValid = false → step s = .next (after s))

/-- R19, R181: the model of the wires agrees with accept, deliver and reset on (FAULTED, DIAG, Q). The draw of an
UNCHECKED violation is free (log 8). -/
def Obligations.StepRefinesTheTransactions : Prop :=
  ∀ s : State, ∃ t any, step s = .next t ∧
    (s.port.rst = true → t.txn = Txn.reset ∧ t.answered = s.answered) ∧
    (s.port.rst = false →
      let accepted := if s.port.reqValid && s.txn.canAccept s.build.qdepth
        then Txn.accept s.build.contractMode any ⟨s.port.op, s.port.a, s.port.b, s.port.c⟩ s.txn else s.txn
      match s.queue with
      | [] => t.txn = accepted ∧ t.answered = s.answered
      | e :: _ =>
        if e.wait = 0 ∧ s.port.rspReady = true then
          t.txn = accepted.deliver ∧ accepted.queue.head? = some e.rsp ∧ t.answered = s.answered ++ [exchange e]
        else t.txn = accepted ∧ t.answered = s.answered)

/-- The meanings against R158's `respond` and R181's `accept`. -/
def Obligations.ExecAcceptsAsRespondSays : Prop :=
  ∀ (i : Instr) (s : State), Ready s → ∃ t any, exec i s = .next t ∧
    t.txn = Txn.accept s.build.contractMode any ⟨encode i, s.port.a, s.port.b, s.port.c⟩ s.txn

/-- R171. That an edge advances one instance of a platform is the model's choice (log 14), and the last clause rests
on it. -/
def Obligations.ResetEdgeClearsTheUnit : Prop :=
  (∀ s : State, s.port.rst = true → ∃ t, step s = .next t ∧
    t.faulted = false ∧ t.diag = 0 ∧ t.queue = [] ∧ t.dropped = s.dropped ++ s.queue.map (·.req) ∧
    t.answered = s.answered ∧ t.outputs.rspValid = false ∧ t.build = s.build) ∧
  ∀ (p : Platform) (j k : Nat), j ≠ k → (p.edge k).units[j]? = p.units[j]?

/-- R172 and R186. -/
def Obligations.ResetWinsOverBothHandshakes : Prop :=
  ∀ s : State, s.port.rst = true →
    s.outputs.reqReady = false ∧ s.outputs.rspValid = false ∧
    ∃ t, step s = .next t ∧ t.accepted = s.accepted ∧ t.answered = s.answered ∧ t.queue = [] ∧
      t.dropped = s.dropped ++ s.queue.map (·.req) ∧ t.outputs.faulted = false ∧ t.outputs.diag = 0

/-- R173. -/
def Obligations.ReadyInTheFirstCycleAfterReset : Prop :=
  ∀ s t : State, s.port.rst = true → step s = .next t → t.port.rst = false →
    t.outputs.reqReady = true ∧
    ∀ i, ∃ u e, exec i t = .next u ∧ u.queue = [e] ∧ e.req.op = encode i

/-- R176. -/
def Obligations.RequestHandshakeAcceptsAtTheTail : Prop :=
  ∀ s : State,
    (s.outputs.reqReady = true ↔ s.port.rst = false ∧ s.faulted = false ∧ s.queue.length < s.build.qdepth) ∧
    ∃ t, step s = .next t ∧
      (s.port.rst = false →
        (t.answered.map (·.req) ++ t.queue.map (·.req)) = (s.answered.map (·.req) ++ s.queue.map (·.req)) ++
          (if s.port.reqValid && s.outputs.reqReady then [⟨s.port.op, s.port.a, s.port.b, s.port.c⟩] else []))

/-- R179. R179 excepts a request removed by a fault. In this model a fault removes none, since none is accepted after
it, as in the transaction-level model (R153, R181): the model's choice (log 6). -/
def Obligations.ResponsesLeaveInAcceptanceOrder : Prop :=
  ∀ s : State, ∃ t, step s = .next t ∧
    (s.port.rst = false →
      t.dropped = s.dropped ∧
      (∃ new : List Exchange, new.length ≤ 1 ∧ t.accepted = s.accepted + new.length ∧
        t.answered ++ t.queue.map exchange = (s.answered ++ s.queue.map exchange) ++ new) ∧
      (t.answered = s.answered ∨ ∃ e rest, s.queue = e :: rest ∧ t.answered = s.answered ++ [exchange e])) ∧
    (s.port.rst = true →
      t.answered = s.answered ∧ t.queue = [] ∧ t.accepted = s.accepted ∧
      t.dropped = s.dropped ++ s.queue.map (·.req))

/-- R178 with the codes of R26. -/
def Obligations.OfferedResponseIsHeld : Prop :=
  ∀ (s : State) (e : Entry) (rest : List Entry), s.port.rst = false → s.queue = e :: rest → e.wait = 0 →
    let code : Status → BitVec 2 := fun
      | .ok => 0
      | .illegal => 1
      | .fault => 2
    let offers := fun u : State => u.outputs.rspValid = true ∧ u.outputs.rspStatus = code e.rsp.status ∧
      u.outputs.rspR0 = e.rsp.r0 ∧ u.outputs.rspR1 = e.rsp.r1 ∧ u.outputs.rspR2 = e.rsp.r2
    offers s ∧
    (s.port.rspReady = false → ∃ t, step s = .next t ∧ t.queue.head? = some e ∧ t.answered = s.answered ∧
      (t.port.rst = false → offers t))

/-- R180, for every accepted request and every entry of Q. The extra delay is a free value within the free bound (log
7); the statement holds for each. -/
def Obligations.NoResponseBeforeLatency : Prop :=
  (∀ s : State, s.port.rst = false →
    ∃ t new, step s = .next t ∧
      t.queue = (match s.queue with
        | [] => []
        | h :: rest => if h.wait = 0 ∧ s.port.rspReady = true then rest.map nearer else (h :: rest).map nearer)
          ++ new ∧
      (Ready s ∧ s.port.reqValid = true →
        ∃ e, new = [e] ∧ e.req = ⟨s.port.op, s.port.a, s.port.b, s.port.c⟩ ∧
          s.build.latency - 1 ≤ e.wait ∧ e.wait ≤ s.build.latency - 1 + Config.slackBound) ∧
      (¬ (Ready s ∧ s.port.reqValid = true) → new = [])) ∧
  (∀ (s : State) (e : Entry) (rest : List Entry), s.queue = e :: rest → 0 < e.wait → s.outputs.rspValid = false) ∧
  (∀ (s : State) (k : Nat) (pre post : List Entry) (e : Entry), s.queue = pre ++ e :: post → k ≤ e.wait →
    (∀ p ∈ (s.port :: s.script).take k, p.rst = false) →
    ∃ t pre' post', core.run k s = .next t ∧
      t.answered ++ pre'.map exchange = s.answered ++ pre.map exchange ∧
      t.queue = pre' ++ { e with wait := e.wait - k } :: post')

/-- R185 for the head of Q, with the number of edges: no request is stuck, and back-pressure ends. -/
def Obligations.HeadResponseIsDelivered : Prop :=
  ∀ (s : State) (e : Entry) (rest : List Entry), s.queue = e :: rest → takesResponses (e.wait + 1) s →
    ∃ t, core.run (e.wait + 1) s = .next t ∧ t.answered = s.answered ++ [exchange e] ∧
      (s.queue.length = s.build.qdepth → t.queue.length < t.build.qdepth ∧ t.faulted = s.faulted)

/-- R185: the unit never deadlocks and never drops a request except by reset. -/
def Obligations.EveryQueuedResponseIsDelivered : Prop :=
  ∀ (s : State) (B : Nat), (∀ e ∈ s.queue, e.wait ≤ B) → takesResponses (B + s.queue.length) s →
    ∃ t more, core.run (B + s.queue.length) s = .next t ∧
      t.answered = s.answered ++ s.queue.map exchange ++ more

/-- R177: the host's duty, on which the unit does not depend. -/
def Obligations.HeldRequestStaysOffered : Prop :=
  ∀ s t : State, step s = .next t → s.hostHolds → s.port.rst = false → s.port.reqValid = true →
    s.outputs.reqReady = false →
    t.accepted = s.accepted ∧
    (t.port.rst = true ∨ (t.port.reqValid = true ∧ t.port.op = s.port.op ∧ t.port.a = s.port.a ∧
      t.port.b = s.port.b ∧ t.port.c = s.port.c))

/-- R30. That the host's wires come from a script, idle after its end, is the model's choice (log 2). -/
def Obligations.BuildParametersNeverChange : Prop :=
  ∀ s t : State, step s = .next t →
    t.build = s.build ∧ t.port = s.script.headD Port.idle ∧ t.script = s.script.tail

/-- R166. That one edge advances one instance is the model's choice (log 14): the spec gives no relation between the
clocks. -/
def Obligations.InstancesAreIndependent : Prop :=
  ∀ (p : Platform) (k : Nat) (s : State), p.units[k]? = some s →
    ∃ t, step s = .next t ∧ (p.edge k).units[k]? = some t ∧
      (∀ j, j ≠ k → (p.edge k).units[j]? = p.units[j]?) ∧
      (p.edge k).units.length = p.units.length

/-- The invariant `State.Inv` is inductive. Its count clause is about the model's own counters (logs 7, 11); that a
FAULT response is the last entry of Q rests on log 6. -/
def Obligations.EveryStepKeepsTheInvariant : Prop :=
  ∀ s t : State, s.Inv → step s = .next t → t.Inv

/-- The reset values of R33. The wires, counters, build and observation at reset are the model's choice (logs 1, 2, 7,
8, 9, 11). -/
def Obligations.ResetMeetsTheInvariant : Prop :=
  State.reset.faulted = false ∧ State.reset.diag = 0 ∧ State.reset.queue = [] ∧
  State.reset.outputs.reqReady = true ∧ State.reset.outputs.rspValid = false ∧ State.reset.Inv
end

