-- ==== Sys2Proof/Laws/State.lean ====
section
/-! SUPPORT. What each update of the state leaves in each field, true by definition. -/

namespace Sys2Proof.Machine.State

variable (s : State) (q : Request) (r : Response)

@[simp] theorem enqueue_faulted : (s.enqueue q r).faulted = s.faulted := rfl
@[simp] theorem enqueue_diag : (s.enqueue q r).diag = s.diag := rfl
@[simp] theorem enqueue_queue : (s.enqueue q r).queue = s.queue ++ [⟨q, r, s.build.latency + (Config.responseSlack s.accepted).val⟩] := rfl
@[simp] theorem enqueue_port : (s.enqueue q r).port = s.port := rfl
@[simp] theorem enqueue_script : (s.enqueue q r).script = s.script := rfl
@[simp] theorem enqueue_build : (s.enqueue q r).build = s.build := rfl
@[simp] theorem enqueue_answered : (s.enqueue q r).answered = s.answered := rfl
@[simp] theorem enqueue_dropped : (s.enqueue q r).dropped = s.dropped := rfl
@[simp] theorem enqueue_accepted : (s.enqueue q r).accepted = s.accepted + 1 := rfl
@[simp] theorem enqueue_edges : (s.enqueue q r).edges = s.edges := rfl

@[simp] theorem resetEdge_faulted : s.resetEdge.faulted = false := rfl
@[simp] theorem resetEdge_diag : s.resetEdge.diag = 0 := rfl
@[simp] theorem resetEdge_queue : s.resetEdge.queue = [] := rfl
@[simp] theorem resetEdge_port : s.resetEdge.port = s.port := rfl
@[simp] theorem resetEdge_script : s.resetEdge.script = s.script := rfl
@[simp] theorem resetEdge_build : s.resetEdge.build = s.build := rfl
@[simp] theorem resetEdge_answered : s.resetEdge.answered = s.answered := rfl
@[simp] theorem resetEdge_dropped : s.resetEdge.dropped = s.dropped ++ s.queue.map (·.req) := rfl
@[simp] theorem resetEdge_accepted : s.resetEdge.accepted = s.accepted := rfl
@[simp] theorem resetEdge_edges : s.resetEdge.edges = s.edges := rfl

@[simp] theorem tick_faulted : s.tick.faulted = s.faulted := rfl
@[simp] theorem tick_diag : s.tick.diag = s.diag := rfl
@[simp] theorem tick_queue : s.tick.queue = s.queue.map fun e => { e with wait := e.wait - 1 } := rfl
@[simp] theorem tick_port : s.tick.port = nextPort s.script := rfl
@[simp] theorem tick_script : s.tick.script = s.script.tail := rfl
@[simp] theorem tick_build : s.tick.build = s.build := rfl
@[simp] theorem tick_answered : s.tick.answered = s.answered := rfl
@[simp] theorem tick_dropped : s.tick.dropped = s.dropped := rfl
@[simp] theorem tick_accepted : s.tick.accepted = s.accepted := rfl
@[simp] theorem tick_edges : s.tick.edges = s.edges + 1 := rfl

@[simp] theorem deliver_faulted : s.deliver.faulted = s.faulted := by unfold deliver; cases s.queue <;> rfl
@[simp] theorem deliver_diag : s.deliver.diag = s.diag := by unfold deliver; cases s.queue <;> rfl
@[simp] theorem deliver_queue : s.deliver.queue = s.queue.tail := by
  unfold deliver; cases h : s.queue <;> simp [h]
@[simp] theorem deliver_port : s.deliver.port = s.port := by unfold deliver; cases s.queue <;> rfl
@[simp] theorem deliver_script : s.deliver.script = s.script := by unfold deliver; cases s.queue <;> rfl
@[simp] theorem deliver_build : s.deliver.build = s.build := by unfold deliver; cases s.queue <;> rfl
theorem deliver_answered {e : Entry} {rest : List Entry} (h : s.queue = e :: rest) :
    s.deliver.answered = s.answered ++ [⟨e.req, e.rsp⟩] := by
  unfold deliver; rw [h]
@[simp] theorem deliver_dropped : s.deliver.dropped = s.dropped := by unfold deliver; cases s.queue <;> rfl
@[simp] theorem deliver_accepted : s.deliver.accepted = s.accepted := by unfold deliver; cases s.queue <;> rfl
@[simp] theorem deliver_edges : s.deliver.edges = s.edges := by unfold deliver; cases s.queue <;> rfl

theorem deliver_of_empty (h : s.queue = []) : s.deliver = s := by unfold deliver; rw [h]

@[simp] theorem request_op (op : OpWord) : (s.request op).op = op := rfl
@[simp] theorem request_a (op : OpWord) : (s.request op).a = s.port.a := rfl
@[simp] theorem request_b (op : OpWord) : (s.request op).b = s.port.b := rfl
@[simp] theorem request_c (op : OpWord) : (s.request op).c = s.port.c := rfl

end Sys2Proof.Machine.State
end

