-- ==== Sys2Proof/Laws/Ops.lean ====
section
/-! SUPPORT. For each shared operation, once, everything it can do; later proofs cite these and do not unfold the
operations. -/

namespace Sys2Proof.Machine

namespace State

variable {s t : State}

/-- `req_ready` in the terms of R176. -/
theorem reqReady_iff :
    s.reqReady = true ↔ s.port.rst = false ∧ s.faulted = false ∧ s.queue.length < s.build.qdepth := by
  have hroom : s.hasRoom = true ↔ s.queue.length < s.build.qdepth := by
    unfold hasRoom
    cases s.queue <;> simp [Build.qdepth]
  simp [reqReady, hroom, and_assoc]

/-- The available entry is the head of Q with no edge left to wait for. -/
theorem available_eq_some {e : Entry} : s.available = some e ↔ ∃ rest, s.queue = e :: rest ∧ e.wait = 0 := by
  unfold available
  cases hq : s.queue with
  | nil => simp
  | cons x rest => by_cases h : x.wait = 0 <;> simp [h] <;> rintro rfl <;> simp_all

/-- What a contract violation can leave. -/
theorem takeViolation_cases (s : State) (q : Request) (w : Width) (cond : Cond) (idx : OperandIndex) :
    (s.build.contractMode = .checked ∧
      s.takeViolation q w cond idx =
        { s.enqueue q (faultResponse (diagWord cond idx q.op)) with
          faulted := true, diag := diagWord cond idx q.op }) ∨
    (s.build.contractMode = .unchecked ∧
      s.takeViolation q w cond idx = s.enqueue q (anyResponse w (Config.anyResult s.accepted))) := by
  unfold takeViolation
  cases s.build.contractMode <;> simp

/-- What answering an accepted request can leave: a response that is no FAULT, or a recorded violation. -/
theorem answer_cases (s : State) (q : Request) (w : Width) (r : Result) :
    (∃ rsp : Response, rsp.status = .ok ∧ s.answer q w r = s.enqueue q rsp) ∨
    (s.build.contractMode = .checked ∧ ∃ cond idx, r = .violation cond idx ∧
      s.answer q w r =
        { s.enqueue q (faultResponse (diagWord cond idx q.op)) with
          faulted := true, diag := diagWord cond idx q.op }) := by
  unfold answer
  cases r with
  | ok r0 r1 r2 => exact .inl ⟨_, rfl, rfl⟩
  | violation cond idx =>
    obtain ⟨hm, h⟩ | ⟨hm, h⟩ := takeViolation_cases s q w cond idx
    · exact .inr ⟨hm, cond, idx, rfl, h⟩
    · exact .inl ⟨_, rfl, h⟩

/-- What an operation on the wires can do: it is accepted and answered, or it waits. -/
theorem perform_ready (h : s.reqReady = true) (i : Instr) (r : Result) :
    s.perform i r = .next (s.answer (s.request (encode i)) i.fields.w r) := by simp [perform, h]

theorem perform_waits (h : s.reqReady = false) (i : Instr) (r : Result) : s.perform i r = .next s := by
  simp [perform, h]

theorem answerIllegal_ready (h : s.reqReady = true) :
    s.answerIllegal = .next (s.enqueue (s.request s.port.op) illegalResponse) := by simp [answerIllegal, h]

theorem answerIllegal_waits (h : s.reqReady = false) : s.answerIllegal = .next s := by simp [answerIllegal, h]

/-- A delivery in the terms of R178: the head of Q is available and the host takes it. -/
theorem delivers_iff (h : s.port.rst = false) :
    s.delivers = true ↔ ∃ e rest, s.queue = e :: rest ∧ e.wait = 0 ∧ s.port.rspReady = true := by
  unfold delivers rspValid available
  cases hq : s.queue with
  | nil => simp
  | cons e rest => by_cases hw : e.wait = 0 <;> simp [hw, h]

end State

/-- Every meaning is the one shared operation applied to what the fields of its row select. -/
theorem exec_eq_perform (i : Instr) (s : State) :
    exec i s = s.perform i (operate i.fields s.port.a s.port.b s.port.c) := by cases i <;> rfl

/-- Every operation answers a next state: the accepted request's, or the state it waits in. -/
theorem exec_cases (i : Instr) (s : State) :
    (s.reqReady = true ∧
      exec i s = .next (s.answer (s.request (encode i)) i.fields.w (operate i.fields s.port.a s.port.b s.port.c))) ∨
    (s.reqReady = false ∧ exec i s = .next s) := by
  rw [exec_eq_perform]
  cases h : s.reqReady
  · exact .inr ⟨rfl, State.perform_waits h _ _⟩
  · exact .inl ⟨rfl, State.perform_ready h _ _⟩

/-- What the request channel can do at an edge: nothing, or answer the decoded operation, or answer ILLEGAL. -/
theorem requestPhase_cases (s : State) :
    ((s.port.reqValid = false ∨ s.reqReady = false) ∧ s.requestPhase = .next s) ∨
    (s.port.reqValid = true ∧ s.reqReady = true ∧ ∃ i, decode s.port.op = .ok i ∧
      s.requestPhase =
        .next (s.answer (s.request (encode i)) i.fields.w (operate i.fields s.port.a s.port.b s.port.c))) ∨
    (s.port.reqValid = true ∧ s.reqReady = true ∧ (∃ why, decode s.port.op = .error why) ∧
      s.requestPhase = .next (s.enqueue (s.request s.port.op) illegalResponse)) := by
  unfold State.requestPhase State.runRequest
  cases hv : s.port.reqValid
  · simp
  · cases hd : decode s.port.op with
    | ok i =>
      obtain ⟨hr, he⟩ | ⟨hr, he⟩ := exec_cases i s
      · exact .inr (.inl ⟨rfl, hr, i, rfl, by simpa using he⟩)
      · exact .inl ⟨.inr hr, by simpa using he⟩
    | error why =>
      cases hr : s.reqReady
      · exact .inl ⟨.inr rfl, by simpa using State.answerIllegal_waits hr⟩
      · exact .inr (.inr ⟨rfl, rfl, ⟨why, rfl⟩, by simpa using State.answerIllegal_ready hr⟩)

/-- How an edge with rst = 0 ends: with or without the delivery of the head of the Q it began with. -/
theorem finishEdge_cases (s t : State) (h : s.port.rst = false) :
    (∃ e rest, s.queue = e :: rest ∧ e.wait = 0 ∧ s.port.rspReady = true ∧ finishEdge s t = t.deliver.tick) ∨
    ((∀ e rest, s.queue = e :: rest → ¬ (e.wait = 0 ∧ s.port.rspReady = true)) ∧ finishEdge s t = t.tick) := by
  unfold finishEdge
  cases hd : s.delivers
  · refine .inr ⟨fun e rest hq hw => ?_, by simp⟩
    rw [(State.delivers_iff h).mpr ⟨e, rest, hq, hw⟩] at hd
    cases hd
  · obtain ⟨e, rest, hq, hw, hy⟩ := (State.delivers_iff h).mp hd
    exact .inl ⟨e, rest, hq, hw, hy, by simp⟩

/-- What an edge can do: a reset, or the request channel and then the end of the edge. -/
theorem step_cases (s : State) :
    (s.port.rst = true ∧ step s = .next s.resetEdge.tick) ∨
    (s.port.rst = false ∧ ∃ t, s.requestPhase = .next t ∧ step s = .next (finishEdge s t)) := by
  unfold step
  cases hr : s.port.rst
  · obtain ⟨-, h⟩ | ⟨-, -, i, -, h⟩ | ⟨-, -, -, h⟩ := requestPhase_cases s <;>
      exact .inr ⟨rfl, _, h, by simp [h]⟩
  · exact .inl ⟨rfl, by simp⟩

/-- A platform has an instance (R11). -/
theorem Platform.one_le_numInstances (p : Platform) : 1 ≤ p.numInstances := Nat.le_add_left 1 p.others.length

/-- Setting one instance sets that place of the list of instances. -/
@[simp] theorem Platform.setUnit_units (p : Platform) (k : Nat) (s : State) :
    (p.setUnit k s).units = p.units.set k s := by cases k <;> rfl

/-- A run of one step more is the step and then the run. -/
theorem core_run_succ (k : Nat) {s t : State} (h : step s = .next t) : core.run (k + 1) s = core.run k t := by
  have unfolded : ∀ (M : Host.Core) (u : M.State), M.run (k + 1) u =
      (match M.step u with
        | .next v => M.run k v
        | .fault r => .fault r
        | .refused r => .refused r) := fun _ _ => rfl
  have hs : core.step s = .next t := h
  have e := unfolded core s
  rw [hs] at e
  exact e

end Sys2Proof.Machine
end

