-- ==== Sys2Proof/Laws/PerInstr.lean ====
section
/-! SUPPORT. Per-instruction laws: each row of R61 is well formed, its word is legal by R57, and the decoder gives it
back. -/

namespace Sys2Proof.Laws.LegalWord

/-- The word of an instruction is legal (R57) and decodes to that instruction (R67). -/
def Statement (i : Instr) : Prop :=
  i.wellFormed = true ∧ legal (encode i) = true ∧ decode (encode i) = .ok i

theorem mconstD2W32A0 : Statement .mconstD2W32A0 := ⟨rfl, rfl, rfl⟩
theorem mconstD2W32A1 : Statement .mconstD2W32A1 := ⟨rfl, rfl, rfl⟩
theorem mconstD2W64A0 : Statement .mconstD2W64A0 := ⟨rfl, rfl, rfl⟩
theorem mconstD2W64A1 : Statement .mconstD2W64A1 := ⟨rfl, rfl, rfl⟩
theorem mconstD3W32A0 : Statement .mconstD3W32A0 := ⟨rfl, rfl, rfl⟩
theorem mconstD3W32A1 : Statement .mconstD3W32A1 := ⟨rfl, rfl, rfl⟩
theorem mconstD3W32A2 : Statement .mconstD3W32A2 := ⟨rfl, rfl, rfl⟩
theorem mconstD3W64A0 : Statement .mconstD3W64A0 := ⟨rfl, rfl, rfl⟩
theorem mconstD3W64A1 : Statement .mconstD3W64A1 := ⟨rfl, rfl, rfl⟩
theorem mconstD3W64A2 : Statement .mconstD3W64A2 := ⟨rfl, rfl, rfl⟩
theorem bscatD2W32A0 : Statement .bscatD2W32A0 := ⟨rfl, rfl, rfl⟩
theorem bscatD2W32A1 : Statement .bscatD2W32A1 := ⟨rfl, rfl, rfl⟩
theorem bscatD2W64A0 : Statement .bscatD2W64A0 := ⟨rfl, rfl, rfl⟩
theorem bscatD2W64A1 : Statement .bscatD2W64A1 := ⟨rfl, rfl, rfl⟩
theorem bscatD3W32A0 : Statement .bscatD3W32A0 := ⟨rfl, rfl, rfl⟩
theorem bscatD3W32A1 : Statement .bscatD3W32A1 := ⟨rfl, rfl, rfl⟩
theorem bscatD3W32A2 : Statement .bscatD3W32A2 := ⟨rfl, rfl, rfl⟩
theorem bscatD3W64A0 : Statement .bscatD3W64A0 := ⟨rfl, rfl, rfl⟩
theorem bscatD3W64A1 : Statement .bscatD3W64A1 := ⟨rfl, rfl, rfl⟩
theorem bscatD3W64A2 : Statement .bscatD3W64A2 := ⟨rfl, rfl, rfl⟩
theorem bgathD2W32A0 : Statement .bgathD2W32A0 := ⟨rfl, rfl, rfl⟩
theorem bgathD2W32A1 : Statement .bgathD2W32A1 := ⟨rfl, rfl, rfl⟩
theorem bgathD2W64A0 : Statement .bgathD2W64A0 := ⟨rfl, rfl, rfl⟩
theorem bgathD2W64A1 : Statement .bgathD2W64A1 := ⟨rfl, rfl, rfl⟩
theorem bgathD3W32A0 : Statement .bgathD3W32A0 := ⟨rfl, rfl, rfl⟩
theorem bgathD3W32A1 : Statement .bgathD3W32A1 := ⟨rfl, rfl, rfl⟩
theorem bgathD3W32A2 : Statement .bgathD3W32A2 := ⟨rfl, rfl, rfl⟩
theorem bgathD3W64A0 : Statement .bgathD3W64A0 := ⟨rfl, rfl, rfl⟩
theorem bgathD3W64A1 : Statement .bgathD3W64A1 := ⟨rfl, rfl, rfl⟩
theorem bgathD3W64A2 : Statement .bgathD3W64A2 := ⟨rfl, rfl, rfl⟩
theorem menc2W32 : Statement .menc2W32 := ⟨rfl, rfl, rfl⟩
theorem menc2W64 : Statement .menc2W64 := ⟨rfl, rfl, rfl⟩
theorem menc3W32 : Statement .menc3W32 := ⟨rfl, rfl, rfl⟩
theorem menc3W64 : Statement .menc3W64 := ⟨rfl, rfl, rfl⟩
theorem mdec2W32 : Statement .mdec2W32 := ⟨rfl, rfl, rfl⟩
theorem mdec2W64 : Statement .mdec2W64 := ⟨rfl, rfl, rfl⟩
theorem mdec3W32 : Statement .mdec3W32 := ⟨rfl, rfl, rfl⟩
theorem mdec3W64 : Statement .mdec3W64 := ⟨rfl, rfl, rfl⟩
theorem qntD2F32W32 : Statement .qntD2F32W32 := ⟨rfl, rfl, rfl⟩
theorem qntD3F32W32 : Statement .qntD3F32W32 := ⟨rfl, rfl, rfl⟩
theorem qntD2F64W32 : Statement .qntD2F64W32 := ⟨rfl, rfl, rfl⟩
theorem qntD2F64W64 : Statement .qntD2F64W64 := ⟨rfl, rfl, rfl⟩
theorem qntD3F64W32 : Statement .qntD3F64W32 := ⟨rfl, rfl, rfl⟩
theorem qntD3F64W64 : Statement .qntD3F64W64 := ⟨rfl, rfl, rfl⟩
theorem dqntD2F32W32 : Statement .dqntD2F32W32 := ⟨rfl, rfl, rfl⟩
theorem dqntD3F32W32 : Statement .dqntD3F32W32 := ⟨rfl, rfl, rfl⟩
theorem dqntD2F64W32 : Statement .dqntD2F64W32 := ⟨rfl, rfl, rfl⟩
theorem dqntD2F64W64 : Statement .dqntD2F64W64 := ⟨rfl, rfl, rfl⟩
theorem dqntD3F64W32 : Statement .dqntD3F64W32 := ⟨rfl, rfl, rfl⟩
theorem dqntD3F64W64 : Statement .dqntD3F64W64 := ⟨rfl, rfl, rfl⟩
theorem fenc2F32W32 : Statement .fenc2F32W32 := ⟨rfl, rfl, rfl⟩
theorem fenc3F32W32 : Statement .fenc3F32W32 := ⟨rfl, rfl, rfl⟩
theorem fenc2F64W32 : Statement .fenc2F64W32 := ⟨rfl, rfl, rfl⟩
theorem fenc2F64W64 : Statement .fenc2F64W64 := ⟨rfl, rfl, rfl⟩
theorem fenc3F64W32 : Statement .fenc3F64W32 := ⟨rfl, rfl, rfl⟩
theorem fenc3F64W64 : Statement .fenc3F64W64 := ⟨rfl, rfl, rfl⟩
theorem fdec2F32W32 : Statement .fdec2F32W32 := ⟨rfl, rfl, rfl⟩
theorem fdec3F32W32 : Statement .fdec3F32W32 := ⟨rfl, rfl, rfl⟩
theorem fdec2F64W32 : Statement .fdec2F64W32 := ⟨rfl, rfl, rfl⟩
theorem fdec2F64W64 : Statement .fdec2F64W64 := ⟨rfl, rfl, rfl⟩
theorem fdec3F64W32 : Statement .fdec3F64W32 := ⟨rfl, rfl, rfl⟩
theorem fdec3F64W64 : Statement .fdec3F64W64 := ⟨rfl, rfl, rfl⟩

end Sys2Proof.Laws.LegalWord
end

