-- ==== Sys2Proof/Tests/Slice0.lean ====
section
/-! SUPPORT. Small tests whose expected results come from the spec, and a witness for the hypotheses of every statement of
`Certificates/Slice0/Obligations.lean`. Each test about the machine runs one step. -/

namespace Sys2Proof.Tests

open Sys2Proof Sys2Proof.Machine Sys2Proof.Claims

set_option Elab.async false

/-! ## Ill-formed terms are refused -/

/-- R54: AX < D for an axis class. -/
theorem test_axis_out_of_dimension_refused :
    Fields.wellFormed ⟨.bscat, .w32, .d2, 2, .binary32⟩ = false ∧
    Fields.wellFormed ⟨.mconst, .w64, .d3, 3, .binary32⟩ = false := by decide

/-- R54: AX = 0 for the other classes. -/
theorem test_axis_on_codec_refused :
    Fields.wellFormed ⟨.menc, .w32, .d2, 1, .binary32⟩ = false ∧
    Fields.wellFormed ⟨.fdec, .w32, .d3, 2, .binary64⟩ = false := by decide

/-- R55: T = 0 for an integer class. -/
theorem test_float_type_on_integer_refused :
    Fields.wellFormed ⟨.mdec, .w64, .d3, 0, .binary64⟩ = false ∧
    Fields.wellFormed ⟨.bgath, .w32, .d2, 1, .binary64⟩ = false := by decide

/-- R55: no binary32 with W = 64. -/
theorem test_wide_code_from_narrow_float_refused :
    Fields.wellFormed ⟨.qnt, .w64, .d2, 0, .binary32⟩ = false ∧
    Fields.wellFormed ⟨.fenc, .w64, .d3, 0, .binary32⟩ = false := by decide

/-- The contrast of spec/95_test_vectors.md, ILLEGAL words: 0x118 is legal. -/
theorem test_wide_code_from_wide_float_accepted :
    Fields.wellFormed ⟨.fenc, .w64, .d2, 0, .binary64⟩ = true ∧ decodeTableWord 32 0x118 = some .fenc2F64W64 := by
  decide +kernel

/-! ## Decoding -/

/-- Source: spec/30_encoding.md R50 (RES, T, AX, D, W, OPC from bit 31 down), R61. -/
theorem test_mconst_words :
    decode (0b00000000000000000000000_0_00_0_0_0001 : OpWord) = .ok .mconstD2W32A0 ∧
    decode (0b00000000000000000000000_0_01_0_0_0001 : OpWord) = .ok .mconstD2W32A1 ∧
    decode (0b00000000000000000000000_0_00_0_1_0001 : OpWord) = .ok .mconstD2W64A0 ∧
    decode (0b00000000000000000000000_0_01_0_1_0001 : OpWord) = .ok .mconstD2W64A1 ∧
    decode (0b00000000000000000000000_0_00_1_0_0001 : OpWord) = .ok .mconstD3W32A0 ∧
    decode (0b00000000000000000000000_0_01_1_0_0001 : OpWord) = .ok .mconstD3W32A1 ∧
    decode (0b00000000000000000000000_0_10_1_0_0001 : OpWord) = .ok .mconstD3W32A2 ∧
    decode (0b00000000000000000000000_0_00_1_1_0001 : OpWord) = .ok .mconstD3W64A0 ∧
    decode (0b00000000000000000000000_0_01_1_1_0001 : OpWord) = .ok .mconstD3W64A1 ∧
    decode (0b00000000000000000000000_0_10_1_1_0001 : OpWord) = .ok .mconstD3W64A2 := by
  decide +kernel

/-- Source: spec/30_encoding.md R50 (RES, T, AX, D, W, OPC from bit 31 down), R61. -/
theorem test_bscat_words :
    decode (0b00000000000000000000000_0_00_0_0_0010 : OpWord) = .ok .bscatD2W32A0 ∧
    decode (0b00000000000000000000000_0_01_0_0_0010 : OpWord) = .ok .bscatD2W32A1 ∧
    decode (0b00000000000000000000000_0_00_0_1_0010 : OpWord) = .ok .bscatD2W64A0 ∧
    decode (0b00000000000000000000000_0_01_0_1_0010 : OpWord) = .ok .bscatD2W64A1 ∧
    decode (0b00000000000000000000000_0_00_1_0_0010 : OpWord) = .ok .bscatD3W32A0 ∧
    decode (0b00000000000000000000000_0_01_1_0_0010 : OpWord) = .ok .bscatD3W32A1 ∧
    decode (0b00000000000000000000000_0_10_1_0_0010 : OpWord) = .ok .bscatD3W32A2 ∧
    decode (0b00000000000000000000000_0_00_1_1_0010 : OpWord) = .ok .bscatD3W64A0 ∧
    decode (0b00000000000000000000000_0_01_1_1_0010 : OpWord) = .ok .bscatD3W64A1 ∧
    decode (0b00000000000000000000000_0_10_1_1_0010 : OpWord) = .ok .bscatD3W64A2 := by
  decide +kernel

/-- Source: spec/30_encoding.md R50 (RES, T, AX, D, W, OPC from bit 31 down), R61. -/
theorem test_bgath_words :
    decode (0b00000000000000000000000_0_00_0_0_0011 : OpWord) = .ok .bgathD2W32A0 ∧
    decode (0b00000000000000000000000_0_01_0_0_0011 : OpWord) = .ok .bgathD2W32A1 ∧
    decode (0b00000000000000000000000_0_00_0_1_0011 : OpWord) = .ok .bgathD2W64A0 ∧
    decode (0b00000000000000000000000_0_01_0_1_0011 : OpWord) = .ok .bgathD2W64A1 ∧
    decode (0b00000000000000000000000_0_00_1_0_0011 : OpWord) = .ok .bgathD3W32A0 ∧
    decode (0b00000000000000000000000_0_01_1_0_0011 : OpWord) = .ok .bgathD3W32A1 ∧
    decode (0b00000000000000000000000_0_10_1_0_0011 : OpWord) = .ok .bgathD3W32A2 ∧
    decode (0b00000000000000000000000_0_00_1_1_0011 : OpWord) = .ok .bgathD3W64A0 ∧
    decode (0b00000000000000000000000_0_01_1_1_0011 : OpWord) = .ok .bgathD3W64A1 ∧
    decode (0b00000000000000000000000_0_10_1_1_0011 : OpWord) = .ok .bgathD3W64A2 := by
  decide +kernel

/-- Source: spec/30_encoding.md R50 (RES, T, AX, D, W, OPC from bit 31 down), R61. -/
theorem test_menc_words :
    decode (0b00000000000000000000000_0_00_0_0_0100 : OpWord) = .ok .menc2W32 ∧
    decode (0b00000000000000000000000_0_00_0_1_0100 : OpWord) = .ok .menc2W64 ∧
    decode (0b00000000000000000000000_0_00_1_0_0100 : OpWord) = .ok .menc3W32 ∧
    decode (0b00000000000000000000000_0_00_1_1_0100 : OpWord) = .ok .menc3W64 := by
  decide +kernel

/-- Source: spec/30_encoding.md R50 (RES, T, AX, D, W, OPC from bit 31 down), R61. -/
theorem test_mdec_words :
    decode (0b00000000000000000000000_0_00_0_0_0101 : OpWord) = .ok .mdec2W32 ∧
    decode (0b00000000000000000000000_0_00_0_1_0101 : OpWord) = .ok .mdec2W64 ∧
    decode (0b00000000000000000000000_0_00_1_0_0101 : OpWord) = .ok .mdec3W32 ∧
    decode (0b00000000000000000000000_0_00_1_1_0101 : OpWord) = .ok .mdec3W64 := by
  decide +kernel

/-- Source: spec/30_encoding.md R50 (RES, T, AX, D, W, OPC from bit 31 down), R61. -/
theorem test_qnt_words :
    decode (0b00000000000000000000000_0_00_0_0_0110 : OpWord) = .ok .qntD2F32W32 ∧
    decode (0b00000000000000000000000_0_00_1_0_0110 : OpWord) = .ok .qntD3F32W32 ∧
    decode (0b00000000000000000000000_1_00_0_0_0110 : OpWord) = .ok .qntD2F64W32 ∧
    decode (0b00000000000000000000000_1_00_0_1_0110 : OpWord) = .ok .qntD2F64W64 ∧
    decode (0b00000000000000000000000_1_00_1_0_0110 : OpWord) = .ok .qntD3F64W32 ∧
    decode (0b00000000000000000000000_1_00_1_1_0110 : OpWord) = .ok .qntD3F64W64 := by
  decide +kernel

/-- Source: spec/30_encoding.md R50 (RES, T, AX, D, W, OPC from bit 31 down), R61. -/
theorem test_dqnt_words :
    decode (0b00000000000000000000000_0_00_0_0_0111 : OpWord) = .ok .dqntD2F32W32 ∧
    decode (0b00000000000000000000000_0_00_1_0_0111 : OpWord) = .ok .dqntD3F32W32 ∧
    decode (0b00000000000000000000000_1_00_0_0_0111 : OpWord) = .ok .dqntD2F64W32 ∧
    decode (0b00000000000000000000000_1_00_0_1_0111 : OpWord) = .ok .dqntD2F64W64 ∧
    decode (0b00000000000000000000000_1_00_1_0_0111 : OpWord) = .ok .dqntD3F64W32 ∧
    decode (0b00000000000000000000000_1_00_1_1_0111 : OpWord) = .ok .dqntD3F64W64 := by
  decide +kernel

/-- Source: spec/30_encoding.md R50 (RES, T, AX, D, W, OPC from bit 31 down), R61. -/
theorem test_fenc_words :
    decode (0b00000000000000000000000_0_00_0_0_1000 : OpWord) = .ok .fenc2F32W32 ∧
    decode (0b00000000000000000000000_0_00_1_0_1000 : OpWord) = .ok .fenc3F32W32 ∧
    decode (0b00000000000000000000000_1_00_0_0_1000 : OpWord) = .ok .fenc2F64W32 ∧
    decode (0b00000000000000000000000_1_00_0_1_1000 : OpWord) = .ok .fenc2F64W64 ∧
    decode (0b00000000000000000000000_1_00_1_0_1000 : OpWord) = .ok .fenc3F64W32 ∧
    decode (0b00000000000000000000000_1_00_1_1_1000 : OpWord) = .ok .fenc3F64W64 := by
  decide +kernel

/-- Source: spec/30_encoding.md R50 (RES, T, AX, D, W, OPC from bit 31 down), R61. -/
theorem test_fdec_words :
    decode (0b00000000000000000000000_0_00_0_0_1001 : OpWord) = .ok .fdec2F32W32 ∧
    decode (0b00000000000000000000000_0_00_1_0_1001 : OpWord) = .ok .fdec3F32W32 ∧
    decode (0b00000000000000000000000_1_00_0_0_1001 : OpWord) = .ok .fdec2F64W32 ∧
    decode (0b00000000000000000000000_1_00_0_1_1001 : OpWord) = .ok .fdec2F64W64 ∧
    decode (0b00000000000000000000000_1_00_1_0_1001 : OpWord) = .ok .fdec3F64W32 ∧
    decode (0b00000000000000000000000_1_00_1_1_1001 : OpWord) = .ok .fdec3F64W64 := by
  decide +kernel

/-- Source: spec/95_test_vectors.md, ILLEGAL words, with the reason the table gives. -/
theorem test_illegal_words :
    decode 0x00000000 = .error .reservedClass ∧
    decode 0x0000000A = .error .reservedClass ∧
    decode 0x0000000C = .error .reservedClass ∧
    decode 0x0000000F = .error .reservedClass ∧
    decode 0x00000204 = .error .reservedBits ∧
    decode 0x80000004 = .error .reservedBits ∧
    decode 0x0000FFFF = .error .reservedBits ∧
    decode 0x000000C1 = .error .badAxis ∧
    decode 0x000000E1 = .error .badAxis ∧
    decode 0x00000082 = .error .badAxis ∧
    decode 0x00000044 = .error .badAxis ∧
    decode 0x00000047 = .error .badAxis ∧
    decode 0x00000104 = .error .badFloatType ∧
    decode 0x00000101 = .error .badFloatType ∧
    decode 0x00000016 = .error .badFloatType ∧
    decode 0x00000017 = .error .badFloatType ∧
    decode 0x00000018 = .error .badFloatType ∧
    decode 0x00000038 = .error .badFloatType ∧
    decode 0x00000019 = .error .badFloatType := by decide +kernel

/-! ## The assembler notation -/

/-- Source: spec/30_encoding.md R61, R64. -/
theorem test_mconst_mnemonics :
    mnemonic .mconstD2W32A0 = "mconst.d2.w32.a0" ∧
    mnemonic .mconstD2W32A1 = "mconst.d2.w32.a1" ∧
    mnemonic .mconstD2W64A0 = "mconst.d2.w64.a0" ∧
    mnemonic .mconstD2W64A1 = "mconst.d2.w64.a1" ∧
    mnemonic .mconstD3W32A0 = "mconst.d3.w32.a0" ∧
    mnemonic .mconstD3W32A1 = "mconst.d3.w32.a1" ∧
    mnemonic .mconstD3W32A2 = "mconst.d3.w32.a2" ∧
    mnemonic .mconstD3W64A0 = "mconst.d3.w64.a0" ∧
    mnemonic .mconstD3W64A1 = "mconst.d3.w64.a1" ∧
    mnemonic .mconstD3W64A2 = "mconst.d3.w64.a2" := by
  decide +kernel

/-- Source: spec/30_encoding.md R61, R64. -/
theorem test_bscat_mnemonics :
    mnemonic .bscatD2W32A0 = "bscat.d2.w32.a0" ∧
    mnemonic .bscatD2W32A1 = "bscat.d2.w32.a1" ∧
    mnemonic .bscatD2W64A0 = "bscat.d2.w64.a0" ∧
    mnemonic .bscatD2W64A1 = "bscat.d2.w64.a1" ∧
    mnemonic .bscatD3W32A0 = "bscat.d3.w32.a0" ∧
    mnemonic .bscatD3W32A1 = "bscat.d3.w32.a1" ∧
    mnemonic .bscatD3W32A2 = "bscat.d3.w32.a2" ∧
    mnemonic .bscatD3W64A0 = "bscat.d3.w64.a0" ∧
    mnemonic .bscatD3W64A1 = "bscat.d3.w64.a1" ∧
    mnemonic .bscatD3W64A2 = "bscat.d3.w64.a2" := by
  decide +kernel

/-- Source: spec/30_encoding.md R61, R64. -/
theorem test_bgath_mnemonics :
    mnemonic .bgathD2W32A0 = "bgath.d2.w32.a0" ∧
    mnemonic .bgathD2W32A1 = "bgath.d2.w32.a1" ∧
    mnemonic .bgathD2W64A0 = "bgath.d2.w64.a0" ∧
    mnemonic .bgathD2W64A1 = "bgath.d2.w64.a1" ∧
    mnemonic .bgathD3W32A0 = "bgath.d3.w32.a0" ∧
    mnemonic .bgathD3W32A1 = "bgath.d3.w32.a1" ∧
    mnemonic .bgathD3W32A2 = "bgath.d3.w32.a2" ∧
    mnemonic .bgathD3W64A0 = "bgath.d3.w64.a0" ∧
    mnemonic .bgathD3W64A1 = "bgath.d3.w64.a1" ∧
    mnemonic .bgathD3W64A2 = "bgath.d3.w64.a2" := by
  decide +kernel

/-- Source: spec/30_encoding.md R61, R64. -/
theorem test_menc_mnemonics :
    mnemonic .menc2W32 = "menc2.w32" ∧
    mnemonic .menc2W64 = "menc2.w64" ∧
    mnemonic .menc3W32 = "menc3.w32" ∧
    mnemonic .menc3W64 = "menc3.w64" := by
  decide +kernel

/-- Source: spec/30_encoding.md R61, R64. -/
theorem test_mdec_mnemonics :
    mnemonic .mdec2W32 = "mdec2.w32" ∧
    mnemonic .mdec2W64 = "mdec2.w64" ∧
    mnemonic .mdec3W32 = "mdec3.w32" ∧
    mnemonic .mdec3W64 = "mdec3.w64" := by
  decide +kernel

/-- Source: spec/30_encoding.md R61, R64. -/
theorem test_qnt_mnemonics :
    mnemonic .qntD2F32W32 = "qnt.d2.f32.w32" ∧
    mnemonic .qntD3F32W32 = "qnt.d3.f32.w32" ∧
    mnemonic .qntD2F64W32 = "qnt.d2.f64.w32" ∧
    mnemonic .qntD2F64W64 = "qnt.d2.f64.w64" ∧
    mnemonic .qntD3F64W32 = "qnt.d3.f64.w32" ∧
    mnemonic .qntD3F64W64 = "qnt.d3.f64.w64" := by
  decide +kernel

/-- Source: spec/30_encoding.md R61, R64. -/
theorem test_dqnt_mnemonics :
    mnemonic .dqntD2F32W32 = "dqnt.d2.f32.w32" ∧
    mnemonic .dqntD3F32W32 = "dqnt.d3.f32.w32" ∧
    mnemonic .dqntD2F64W32 = "dqnt.d2.f64.w32" ∧
    mnemonic .dqntD2F64W64 = "dqnt.d2.f64.w64" ∧
    mnemonic .dqntD3F64W32 = "dqnt.d3.f64.w32" ∧
    mnemonic .dqntD3F64W64 = "dqnt.d3.f64.w64" := by
  decide +kernel

/-- Source: spec/30_encoding.md R61, R64. -/
theorem test_fenc_mnemonics :
    mnemonic .fenc2F32W32 = "fenc2.f32.w32" ∧
    mnemonic .fenc3F32W32 = "fenc3.f32.w32" ∧
    mnemonic .fenc2F64W32 = "fenc2.f64.w32" ∧
    mnemonic .fenc2F64W64 = "fenc2.f64.w64" ∧
    mnemonic .fenc3F64W32 = "fenc3.f64.w32" ∧
    mnemonic .fenc3F64W64 = "fenc3.f64.w64" := by
  decide +kernel

/-- Source: spec/30_encoding.md R61, R64. -/
theorem test_fdec_mnemonics :
    mnemonic .fdec2F32W32 = "fdec2.f32.w32" ∧
    mnemonic .fdec3F32W32 = "fdec3.f32.w32" ∧
    mnemonic .fdec2F64W32 = "fdec2.f64.w32" ∧
    mnemonic .fdec2F64W64 = "fdec2.f64.w64" ∧
    mnemonic .fdec3F64W32 = "fdec3.f64.w32" ∧
    mnemonic .fdec3F64W64 = "fdec3.f64.w64" := by
  decide +kernel

/-- Source: spec/95_test_vectors.md §1.2, §3 P2 and P3. -/
theorem test_assembled_lines :
    assemble (.op "fenc3.f64.w64" [.float .binary64 false 1 2, .float .binary64 false 1 4, .float .binary64 false 3 4]) =
      some ⟨0x138, 0x3FE0000000000000, 0x3FD0000000000000, 0x3FE8000000000000⟩ ∧
    assemble (.op "menc3.w32" [.int 1, .int 0x400, .int 0]) = some ⟨0x24, 1, 0x400, 0⟩ ∧
    assemble (.op "menc3.w32" [.int 1, .int 1]) = none ∧
    assemble (.word 0x204 1 1 0) = some ⟨0x204, 1, 1, 0⟩ := by decide +kernel

/-- Source: spec/95_test_vectors.md §0, the binary32 patterns of 0.5, -1.0 and -0.0. -/
theorem test_float_literals :
    Literal.value (.float .binary32 false 1 2) = some 0x3F000000 ∧
    Literal.value (.float .binary32 true 1 1) = some 0xBF800000 ∧
    Literal.value (.float .binary32 true 0 1) = some 0x80000000 := by decide +kernel

/-- Source: spec/30_encoding.md R65 and spec/95_test_vectors.md §3 P1 request 3: two of three ports are shown. -/
theorem test_shown_response :
    shown Instr.mdec2W32.fields ⟨.ok, 0x1234, 0xABCD, 0⟩ = (.ok, [0x1234, 0xABCD]) := by decide

/-! ## One step, on a small state -/

/-- A unit with QDEPTH = 2 and LATENCY = 1, reset, with a request on its wires and no response taken. -/
def unit (mode : ContractMode) (op : OpWord) (a b c : Word64) : State :=
  { State.reset with build := ⟨mode, 1, 0⟩, port := ⟨false, true, op, a, b, c, false⟩ }

/-- The status code and results of the response that joins Q in the step. -/
def answered (mode : ContractMode) (op : OpWord) (a b c : Word64) : Option (Nat × Nat × Nat × Nat) :=
  match step (unit mode op a b c) with
  | .next t => t.queue.getLast?.map fun e =>
      ((statusCode e.rsp.status).toNat, e.rsp.r0.toNat, e.rsp.r1.toNat, e.rsp.r2.toNat)
  | .fault _ => none
  | .refused _ => none

/-- FAULTED and DIAG after one step, and the lengths of Q and of the delivered responses. -/
def after (s : State) : Option (Bool × Nat × Nat × Nat) :=
  match step s with
  | .next t => some (t.faulted, t.diag.toNat, t.queue.length, t.answered.length)
  | .fault _ => none
  | .refused _ => none

/-- Source: spec/95_test_vectors.md §2 MCONST. -/
theorem test_mconstD2W32A0_vectors :
    answered .checked 1 0 0 0 = some (0, 0x55555555, 0xFFFF, 0xFFFFFFFF) := by
  decide +kernel

/-- Source: spec/95_test_vectors.md §2 MCONST. -/
theorem test_mconstD2W32A1_vectors :
    answered .checked 0x41 0 0 0 = some (0, 0xAAAAAAAA, 0xFFFF, 0xFFFFFFFF) := by
  decide +kernel

/-- Source: spec/95_test_vectors.md §2 MCONST. -/
theorem test_mconstD2W64A0_vectors :
    answered .checked 0x11 0 0 0 = some (0, 0x5555555555555555, 0xFFFFFFFF, 0xFFFFFFFFFFFFFFFF) := by
  decide +kernel

/-- Source: spec/95_test_vectors.md §2 MCONST. -/
theorem test_mconstD2W64A1_vectors :
    answered .checked 0x51 0 0 0 = some (0, 0xAAAAAAAAAAAAAAAA, 0xFFFFFFFF, 0xFFFFFFFFFFFFFFFF) := by
  decide +kernel

/-- Source: spec/95_test_vectors.md §2 MCONST. -/
theorem test_mconstD3W32A0_vectors :
    answered .checked 0x21 0 0 0 = some (0, 0x9249249, 0x3FF, 0x3FFFFFFF) := by
  decide +kernel

/-- Source: spec/95_test_vectors.md §2 MCONST. -/
theorem test_mconstD3W32A1_vectors :
    answered .checked 0x61 0 0 0 = some (0, 0x12492492, 0x3FF, 0x3FFFFFFF) := by
  decide +kernel

/-- Source: spec/95_test_vectors.md §2 MCONST. -/
theorem test_mconstD3W32A2_vectors :
    answered .checked 0xA1 0 0 0 = some (0, 0x24924924, 0x3FF, 0x3FFFFFFF) := by
  decide +kernel

/-- Source: spec/95_test_vectors.md §2 MCONST. -/
theorem test_mconstD3W64A0_vectors :
    answered .checked 0x31 0 0 0 = some (0, 0x1249249249249249, 0x1FFFFF, 0x7FFFFFFFFFFFFFFF) := by
  decide +kernel

/-- Source: spec/95_test_vectors.md §2 MCONST. -/
theorem test_mconstD3W64A1_vectors :
    answered .checked 0x71 0 0 0 = some (0, 0x2492492492492492, 0x1FFFFF, 0x7FFFFFFFFFFFFFFF) := by
  decide +kernel

/-- Source: spec/95_test_vectors.md §2 MCONST. -/
theorem test_mconstD3W64A2_vectors :
    answered .checked 0xB1 0 0 0 = some (0, 0x4924924924924924, 0x1FFFFF, 0x7FFFFFFFFFFFFFFF) := by
  decide +kernel

/-- Source: spec/95_test_vectors.md §2 BSCAT. -/
theorem test_bscatD2W32A0_vectors :
    answered .checked 2 0x5555 0 0 = some (0, 0x11111111, 0, 0) ∧
    answered .checked 2 0x10000 0 0 = some (2, 0x20001, 0, 0) := by
  decide +kernel

/-- Source: spec/95_test_vectors.md §2 BSCAT. -/
theorem test_bscatD2W32A1_vectors :
    answered .checked 0x42 0xABCD 0 0 = some (0, 0x888AA0A2, 0, 0) ∧
    answered .checked 0x42 0x10000 0 0 = some (2, 0x420001, 0, 0) := by
  decide +kernel

/-- Source: spec/95_test_vectors.md §2 BSCAT. -/
theorem test_bscatD2W64A0_vectors :
    answered .checked 0x12 0x55555555 0 0 = some (0, 0x1111111111111111, 0, 0) ∧
    answered .checked 0x12 0x100000000 0 0 = some (2, 0x120001, 0, 0) := by
  decide +kernel

/-- Source: spec/95_test_vectors.md §2 BSCAT. -/
theorem test_bscatD2W64A1_vectors :
    answered .checked 0x52 0xFFFFFFFF 0 0 = some (0, 0xAAAAAAAAAAAAAAAA, 0, 0) ∧
    answered .checked 0x52 0x100000000 0 0 = some (2, 0x520001, 0, 0) := by
  decide +kernel

/-- Source: spec/95_test_vectors.md §2 BSCAT. -/
theorem test_bscatD3W32A0_vectors :
    answered .checked 0x22 0x155 0 0 = some (0, 0x1041041, 0, 0) ∧
    answered .checked 0x22 0x400 0 0 = some (2, 0x220001, 0, 0) := by
  decide +kernel

/-- Source: spec/95_test_vectors.md §2 BSCAT. -/
theorem test_bscatD3W32A1_vectors :
    answered .checked 0x62 0x3FF 0 0 = some (0, 0x12492492, 0, 0) ∧
    answered .checked 0x62 0x400 0 0 = some (2, 0x620001, 0, 0) := by
  decide +kernel

/-- Source: spec/95_test_vectors.md §2 BSCAT. -/
theorem test_bscatD3W32A2_vectors :
    answered .checked 0xA2 0x3FF 0 0 = some (0, 0x24924924, 0, 0) ∧
    answered .checked 0xA2 0x400 0 0 = some (2, 0xA20001, 0, 0) := by
  decide +kernel

/-- Source: spec/95_test_vectors.md §2 BSCAT. -/
theorem test_bscatD3W64A0_vectors :
    answered .checked 0x32 0xAAAAA 0 0 = some (0, 0x208208208208208, 0, 0) ∧
    answered .checked 0x32 0x200000 0 0 = some (2, 0x320001, 0, 0) := by
  decide +kernel

/-- Source: spec/95_test_vectors.md §2 BSCAT. -/
theorem test_bscatD3W64A1_vectors :
    answered .checked 0x72 0x1FFFFF 0 0 = some (0, 0x2492492492492492, 0, 0) ∧
    answered .checked 0x72 0x200000 0 0 = some (2, 0x720001, 0, 0) := by
  decide +kernel

/-- Source: spec/95_test_vectors.md §2 BSCAT. -/
theorem test_bscatD3W64A2_vectors :
    answered .checked 0xB2 0x1FFFFF 0 0 = some (0, 0x4924924924924924, 0, 0) ∧
    answered .checked 0xB2 0x200000 0 0 = some (2, 0xB20001, 0, 0) := by
  decide +kernel

/-- Source: spec/95_test_vectors.md §2 BGATH. -/
theorem test_bgathD2W32A0_vectors :
    answered .checked 3 0xAAAAAAAA 0 0 = some (0, 0, 0, 0) := by
  decide +kernel

/-- Source: spec/95_test_vectors.md §2 BGATH. -/
theorem test_bgathD2W32A1_vectors :
    answered .checked 0x43 0xAAAAAAAA 0 0 = some (0, 0xFFFF, 0, 0) := by
  decide +kernel

/-- Source: spec/95_test_vectors.md §2 BGATH. -/
theorem test_bgathD2W64A0_vectors :
    answered .checked 0x13 0xAAAAAAAAAAAAAAAA 0 0 = some (0, 0, 0, 0) := by
  decide +kernel

/-- Source: spec/95_test_vectors.md §2 BGATH. -/
theorem test_bgathD2W64A1_vectors :
    answered .checked 0x53 0xAAAAAAAAAAAAAAAA 0 0 = some (0, 0xFFFFFFFF, 0, 0) := by
  decide +kernel

/-- Source: spec/95_test_vectors.md §2 BGATH. -/
theorem test_bgathD3W32A0_vectors :
    answered .checked 0x23 0xF6DB6DB6 0 0 = some (0, 0, 0, 0) := by
  decide +kernel

/-- Source: spec/95_test_vectors.md §2 BGATH. -/
theorem test_bgathD3W32A1_vectors :
    answered .checked 0x63 0xEDB6DB6D 0 0 = some (0, 0, 0, 0) := by
  decide +kernel

/-- Source: spec/95_test_vectors.md §2 BGATH. -/
theorem test_bgathD3W32A2_vectors :
    answered .checked 0xA3 0xDB6DB6DB 0 0 = some (0, 0, 0, 0) := by
  decide +kernel

/-- Source: spec/95_test_vectors.md §2 BGATH. -/
theorem test_bgathD3W64A0_vectors :
    answered .checked 0x33 0xEDB6DB6DB6DB6DB6 0 0 = some (0, 0, 0, 0) := by
  decide +kernel

/-- Source: spec/95_test_vectors.md §2 BGATH. -/
theorem test_bgathD3W64A1_vectors :
    answered .checked 0x73 0xDB6DB6DB6DB6DB6D 0 0 = some (0, 0, 0, 0) := by
  decide +kernel

/-- Source: spec/95_test_vectors.md §2 BGATH. -/
theorem test_bgathD3W64A2_vectors :
    answered .checked 0xB3 0xB6DB6DB6DB6DB6DB 0 0 = some (0, 0, 0, 0) := by
  decide +kernel

/-- Source: spec/95_test_vectors.md §1.3, §2 MENC. -/
theorem test_menc2W32_vectors :
    answered .checked 4 0x1234 0xABCD 0 = some (0, 0x898EA5B2, 0, 0) ∧
    answered .checked 4 0 0x10000 0 = some (2, 0x40011, 0, 0) := by
  decide +kernel

/-- Source: spec/95_test_vectors.md §1.3, §2 MENC. -/
theorem test_menc2W64_vectors :
    answered .checked 0x14 0x12345678 0x9ABCDEF0 0 = some (0, 0x838C8FB0B3BCBF40, 0, 0) ∧
    answered .checked 0x14 0x100000000 0 0 = some (2, 0x140001, 0, 0) := by
  decide +kernel

/-- Source: spec/95_test_vectors.md §1.3, §2 MENC. -/
theorem test_menc3W32_vectors :
    answered .checked 0x24 0x2AB 0x155 0xF0 = some (0, 0xABAE28B, 0, 0) ∧
    answered .checked 0x24 0 0 0x400 = some (2, 0x240021, 0, 0) := by
  decide +kernel

/-- Source: spec/95_test_vectors.md §1.3, §2 MENC. -/
theorem test_menc3W64_vectors :
    answered .checked 0x34 0x12345 0x6789A 0x1BCDE = some (0, 0x958BED09D46D71, 0, 0) ∧
    answered .checked 0x34 0 0x200000 0 = some (2, 0x340011, 0, 0) := by
  decide +kernel

/-- Source: spec/95_test_vectors.md §1.3, §2 MDEC. -/
theorem test_mdec2W32_vectors :
    answered .checked 5 0x898EA5B2 0 0 = some (0, 0x1234, 0xABCD, 0) := by
  decide +kernel

/-- Source: spec/95_test_vectors.md §1.3, §2 MDEC. -/
theorem test_mdec2W64_vectors :
    answered .checked 0x15 0x5555555555555555 0 0 = some (0, 0xFFFFFFFF, 0, 0) := by
  decide +kernel

/-- Source: spec/95_test_vectors.md §1.3, §2 MDEC. -/
theorem test_mdec3W32_vectors :
    answered .checked 0x25 0xABAE28B 0 0 = some (0, 0x2AB, 0x155, 0xF0) := by
  decide +kernel

/-- Source: spec/95_test_vectors.md §1.3, §2 MDEC. -/
theorem test_mdec3W64_vectors :
    answered .checked 0x35 0x958BED09D46D71 0 0 = some (0, 0x12345, 0x6789A, 0x1BCDE) := by
  decide +kernel

/-- Source: spec/95_test_vectors.md §1.4, §2 QNT. -/
theorem test_qntD2F32W32_vectors :
    answered .checked 6 0x37800080 0 0 = some (0, 1, 0, 0) ∧
    answered .checked 6 0x80000001 0 0 = some (2, 0x60002, 0, 0) := by
  decide +kernel

/-- Source: spec/95_test_vectors.md §1.4, §2 QNT. -/
theorem test_qntD3F32W32_vectors :
    answered .checked 0x26 0x3A802008 0 0 = some (0, 1, 0, 0) ∧
    answered .checked 0x26 0x80000001 0 0 = some (2, 0x260002, 0, 0) := by
  decide +kernel

/-- Source: spec/95_test_vectors.md §1.4, §2 QNT. -/
theorem test_qntD2F64W32_vectors :
    answered .checked 0x106 0x3EF0001000100010 0 0 = some (0, 1, 0, 0) ∧
    answered .checked 0x106 0x8000000000000001 0 0 = some (2, 0x1060002, 0, 0) := by
  decide +kernel

/-- Source: spec/95_test_vectors.md §1.4, §2 QNT. -/
theorem test_qntD2F64W64_vectors :
    answered .checked 0x116 0x3DF0000000100000 0 0 = some (0, 1, 0, 0) ∧
    answered .checked 0x116 0x8000000000000001 0 0 = some (2, 0x1160002, 0, 0) := by
  decide +kernel

/-- Source: spec/95_test_vectors.md §1.4, §2 QNT. -/
theorem test_qntD3F64W32_vectors :
    answered .checked 0x126 0x3F50040100401004 0 0 = some (0, 1, 0, 0) ∧
    answered .checked 0x126 0x8000000000000001 0 0 = some (2, 0x1260002, 0, 0) := by
  decide +kernel

/-- Source: spec/95_test_vectors.md §1.4, §2 QNT. -/
theorem test_qntD3F64W64_vectors :
    answered .checked 0x136 0x3EA0000080000400 0 0 = some (0, 1, 0, 0) ∧
    answered .checked 0x136 0x8000000000000001 0 0 = some (2, 0x1360002, 0, 0) := by
  decide +kernel

/-- Source: spec/95_test_vectors.md §1.4, §2 DQNT. -/
theorem test_dqntD2F32W32_vectors :
    answered .checked 7 0xFFFFFFFF00000001 0 0 = some (0, 0x37800080, 0, 0) := by
  decide +kernel

/-- Source: spec/95_test_vectors.md §1.4, §2 DQNT. -/
theorem test_dqntD3F32W32_vectors :
    answered .checked 0x27 0xFFFFFFFF00000001 0 0 = some (0, 0x3A802008, 0, 0) := by
  decide +kernel

/-- Source: spec/95_test_vectors.md §1.4, §2 DQNT. -/
theorem test_dqntD2F64W32_vectors :
    answered .checked 0x107 0xFFFFFFFF00000001 0 0 = some (0, 0x3EF0001000100010, 0, 0) := by
  decide +kernel

/-- Source: spec/95_test_vectors.md §1.4, §2 DQNT. -/
theorem test_dqntD2F64W64_vectors :
    answered .checked 0x117 0x100000000 0 0 = some (0, 0x3FF0000000100000, 0, 0) := by
  decide +kernel

/-- Source: spec/95_test_vectors.md §1.4, §2 DQNT. -/
theorem test_dqntD3F64W32_vectors :
    answered .checked 0x127 0xFFFFFFFF00000001 0 0 = some (0, 0x3F50040100401004, 0, 0) := by
  decide +kernel

/-- Source: spec/95_test_vectors.md §1.4, §2 DQNT. -/
theorem test_dqntD3F64W64_vectors :
    answered .checked 0x137 0x17FFFF 0 0 = some (0, 0x3FE7FFFFBFFFFE00, 0, 0) := by
  decide +kernel

/-- Source: spec/95_test_vectors.md §2 FENC; the first by hand from R73 and R132. -/
theorem test_fenc2F32W32_vectors :
    answered .checked 8 0x3F800000 0 0 = some (0, 0x55555555, 0, 0) := by
  decide +kernel

/-- Source: spec/95_test_vectors.md §2 FENC; the first by hand from R73 and R132. -/
theorem test_fenc3F32W32_vectors :
    answered .checked 0x28 0 0x3F800000 0 = some (0, 0x12492492, 0, 0) ∧
    answered .checked 0x28 0xBF800000 0x7FC00000 0 = some (2, 0x280002, 0, 0) := by
  decide +kernel

/-- Source: spec/95_test_vectors.md §2 FENC. -/
theorem test_fenc2F64W32_vectors :
    answered .checked 0x108 0x3FF0000000000000 0 0 = some (0, 0x55555555, 0, 0) := by
  decide +kernel

/-- Source: spec/95_test_vectors.md §2 FENC. -/
theorem test_fenc2F64W64_vectors :
    answered .checked 0x118 0x3FE0000000000000 0x3FD0000000000000 0 = some (0, 0x1FFFFFFFFFFFFFFF, 0, 0) ∧
    answered .checked 0x118 0x3FF0000000000000 0x7FF8000000000000 0 = some (2, 0x1180012, 0, 0) := by
  decide +kernel

/-- Source: spec/95_test_vectors.md §2 FENC; the first by hand from R73 and §2 QNT (0.5 gives 0x1FF). -/
theorem test_fenc3F64W32_vectors :
    answered .checked 0x128 0x3FF0000000000000 0 0x3FE0000000000000 = some (0, 0xDB6DB6D, 0, 0) ∧
    answered .checked 0x128 0 0 0x3FF0000000000001 = some (2, 0x1280022, 0, 0) := by
  decide +kernel

/-- Source: spec/95_test_vectors.md §2 FENC. -/
theorem test_fenc3F64W64_vectors :
    answered .checked 0x138 0x3FE0000000000000 0x3FD0000000000000 0x3FE8000000000000 = some (0, 0x43FFFFFFFFFFFFFF, 0, 0) := by
  decide +kernel

/-- Source: spec/95_test_vectors.md §2 FDEC; by hand from R101 and §2 DQNT. -/
theorem test_fdec2F32W32_vectors :
    answered .checked 9 2 0 0 = some (0, 0, 0x37800080, 0) := by
  decide +kernel

/-- Source: spec/95_test_vectors.md §2 FDEC. -/
theorem test_fdec3F32W32_vectors :
    answered .checked 0x29 0xFFFFFFFF 0 0 = some (0, 0x3F800000, 0x3F800000, 0x3F800000) := by
  decide +kernel

/-- Source: spec/95_test_vectors.md §2 FDEC; by hand from R73 and R131. -/
theorem test_fdec2F64W32_vectors :
    answered .checked 0x109 0x55555555 0 0 = some (0, 0x3FF0000000000000, 0, 0) := by
  decide +kernel

/-- Source: spec/95_test_vectors.md §2 FDEC. -/
theorem test_fdec2F64W64_vectors :
    answered .checked 0x119 0xAAAAAAAAAAAAAAAA 0 0 = some (0, 0, 0x3FF0000000000000, 0) := by
  decide +kernel

/-- Source: spec/95_test_vectors.md §2 FDEC. -/
theorem test_fdec3F64W32_vectors :
    answered .checked 0x129 7 0 0 = some (0, 0x3F50040100401004, 0x3F50040100401004, 0x3F50040100401004) := by
  decide +kernel

/-- Source: spec/95_test_vectors.md §2 FDEC. -/
theorem test_fdec3F64W64_vectors :
    answered .checked 0x139 0x43FFFFFFFFFFFFFF 0 0 = some (0, 0x3FDFFFFEFFFFF800, 0x3FCFFFFCFFFFE800, 0x3FE7FFFFBFFFFE00) := by
  decide +kernel

/-- Source: spec/43_normalizer_float_codec.md R120, the worked example, and R132 (-0.0 and a subnormal). -/
theorem test_quant_rounds_the_product :
    answered .checked 0x006 0x37800080 0 0 = some (0, 1, 0, 0) ∧
    answered .checked 0x006 0x80000000 0 0 = some (0, 0, 0, 0) ∧
    answered .checked 0x006 1 0 0 = some (0, 0, 0, 0) := by decide +kernel

/-- Source: spec/95_test_vectors.md §2 QNT: NaN, infinity, above 1.0 and a negative subnormal violate. -/
theorem test_quant_range :
    answered .checked 0x006 0x7FC00000 0 0 = some (2, 0x60002, 0, 0) ∧
    answered .checked 0x006 0x7F800000 0 0 = some (2, 0x60002, 0, 0) ∧
    answered .checked 0x006 0x3F800001 0 0 = some (2, 0x60002, 0, 0) ∧
    answered .checked 0x006 0x80000001 0 0 = some (2, 0x60002, 0, 0) := by decide +kernel

/-- Source: spec/95_test_vectors.md §3 P3 requests 1 and 4: an illegal word leaves FAULTED and DIAG, a violation sets them. -/
theorem test_fault_and_illegal_state :
    after (unit .checked 0x000 0 0 0) = some (false, 0, 1, 0) ∧
    after (unit .checked 0x024 1 0x400 0) = some (true, 0x240011, 1, 0) := by decide +kernel

/-- Source: spec/95_test_vectors.md §3 P3u request 3: unchecked, the violation is answered and the unit goes on. -/
theorem test_unchecked_violation_goes_on :
    after (unit .unchecked 0x024 1 0x400 0) = some (false, 0, 1, 0) ∧
    (answered .unchecked 0x024 1 0x400 0).map (fun r => (r.1, r.2.2)) = some (0, 0, 0) := by decide +kernel

/-- A response of 0xF in Q, one edge from reset, to `menc2.w32 0x3, 0x3`. -/
def pendingMenc : Entry := ⟨⟨0x004, 3, 3, 0⟩, ⟨.ok, 0xF, 0, 0⟩, 0⟩

/-- A response of 0x3, 0x3 in Q, to `mdec2.w32 0xF`. -/
def pendingMdec : Entry := ⟨⟨0x005, 0xF, 0, 0⟩, ⟨.ok, 3, 3, 0⟩, 0⟩

/-- The state before edge 3 of P4: Q is full, `bgath.d2.w32.a0 0xF` is offered and the head response is taken. -/
def fullUnit : State :=
  { unit .checked 0x003 0xF 0 0 with
    queue := [pendingMenc, pendingMdec]
    accepted := 2
    port := ⟨false, true, 0x003, 0xF, 0, 0, true⟩
    script := [⟨false, true, 0x003, 0xF, 0, 0, true⟩] }

/-- Source: spec/95_test_vectors.md §3 P4, edge 3: not accepted although the delivery makes room. -/
theorem test_full_queue_is_not_bypassed :
    fullUnit.outputs.reqReady = false ∧ fullUnit.outputs.rspValid = true ∧ fullUnit.outputs.rspR0 = 0xF ∧
    after fullUnit = some (false, 0, 1, 1) := by decide +kernel

/-- The state before edge 4 of P4: Q has room, so the request is accepted as the head is delivered. -/
theorem test_accept_and_deliver_at_one_edge :
    after { fullUnit with queue := [pendingMdec], answered := [⟨pendingMenc.req, pendingMenc.rsp⟩] } =
      some (false, 0, 1, 2) := by decide +kernel

/-- A unit halted by the violation of P3 request 4, offered `mdec3.w32 0x7`, with the reset wire at the given level. -/
def haltedUnit (rst : Bool) : State :=
  { unit .checked 0x025 7 0 0 with
    faulted := true
    diag := 0x240011
    queue := [⟨⟨0x024, 1, 0x400, 0⟩, ⟨.fault, 0x240011, 0, 0⟩, 0⟩]
    accepted := 1
    port := ⟨rst, true, 0x025, 7, 0, 0, true⟩ }

/-- Source: spec/95_test_vectors.md §3 P3 request 5 and the reset: not accepted while FAULTED, cleared by one edge of `rst`
with the response of Q dropped (70_reset R171, R186). -/
theorem test_halt_and_reset :
    after (haltedUnit false) = some (true, 0x240011, 0, 1) ∧ after (haltedUnit true) = some (false, 0, 0, 0) := by
  decide +kernel

/-- Source: spec/70_reset_and_hazards.md R173: the unit runs the first request offered after reset. -/
theorem test_runs_after_reset :
    (match step (State.reset.withFetchWord 32 0x001) with
      | .next t => t.queue.map (·.rsp)
      | .fault _ => []
      | .refused _ => []) = [⟨.ok, 0x55555555, 0xFFFF, 0xFFFFFFFF⟩] := by decide +kernel

/-! ## Witnesses: each meets all hypotheses of the statement named, clause by clause, at the ends of its ranges -/

/-- Every state of `unit` in which the host requests anything is ready: the hypothesis of the statements on results. -/
theorem test_witness_ready (mode : ContractMode) (op : OpWord) (a b c : Word64) : Ready (unit mode op a b c) :=
  ⟨rfl, rfl, show 0 < 2 by decide⟩

/-- MconstReturnsAxisConstants, BgathGathers, MdecDeinterleaves, DqntDequantizes, FdecDecodesToFloats: `Ready` alone, in
both contract modes; at the smallest and the largest operand. -/
theorem test_witness_no_precondition :
    Ready (unit .checked 0x001 0 0 0) ∧ Ready (unit .checked 0x003 0 0 0) ∧
    Ready (unit .unchecked 0x135 0xFFFFFFFFFFFFFFFF 0 0) ∧
    Ready (unit .checked 0x107 0xFFFFFFFF 0 0) ∧ Ready (unit .unchecked 0x139 0xFFFFFFFFFFFFFFFF 0 0) :=
  ⟨test_witness_ready _ _ _ _ _, test_witness_ready _ _ _ _ _, test_witness_ready _ _ _ _ _,
    test_witness_ready _ _ _ _ _, test_witness_ready _ _ _ _ _⟩

/-- BscatScattersOrViolates: the last source in range and the first out of range, for each W and n, in both modes. -/
theorem test_witness_scatter_clauses :
    (low 32 0xFFFFFFFF0000FFFF ≤ 2 ^ 16 - 1 ∧ 2 ^ 16 - 1 < low 32 0x10000) ∧
    (low 64 0xFFFFFFFF ≤ 2 ^ 32 - 1 ∧ 2 ^ 32 - 1 < low 64 0x100000000) ∧
    (low 32 0x3FF ≤ 2 ^ 10 - 1 ∧ 2 ^ 10 - 1 < low 32 0x400) ∧
    (low 64 0x1FFFFF ≤ 2 ^ 21 - 1 ∧ 2 ^ 21 - 1 < low 64 0x200000) ∧
    (unit .checked 0x002 0x10000 0 0).build.contractMode = .checked ∧
    (unit .unchecked 0x002 0x10000 0 0).build.contractMode = .unchecked := by decide +kernel

/-- MencInterleavesOrViolates, 2D and 3D: all in range, then each operand the first out of range. -/
theorem test_witness_encode_clauses :
    (let s := unit .checked 0x004 0xFFFF 0xFFFF 0
     low 32 s.port.a ≤ 2 ^ 16 - 1 ∧ low 32 s.port.b ≤ 2 ^ 16 - 1) ∧
    (let s := unit .checked 0x004 0x10000 0 0
     2 ^ 16 - 1 < low 32 s.port.a) ∧
    (let s := unit .unchecked 0x014 0xFFFFFFFF 0x100000000 0
     low 64 s.port.a ≤ 2 ^ 32 - 1 ∧ 2 ^ 32 - 1 < low 64 s.port.b) ∧
    (let s := unit .checked 0x034 0x1FFFFF 0x1FFFFF 0x1FFFFF
     low 64 s.port.a ≤ 2 ^ 21 - 1 ∧ low 64 s.port.b ≤ 2 ^ 21 - 1 ∧ low 64 s.port.c ≤ 2 ^ 21 - 1) ∧
    (let s := unit .unchecked 0x034 0x200000 0 0
     2 ^ 21 - 1 < low 64 s.port.a) ∧
    (let s := unit .checked 0x024 0x3FF 0x400 0
     low 32 s.port.a ≤ 2 ^ 10 - 1 ∧ 2 ^ 10 - 1 < low 32 s.port.b) ∧
    (let s := unit .unchecked 0x024 0x3FF 0x3FF 0x400
     low 32 s.port.a ≤ 2 ^ 10 - 1 ∧ low 32 s.port.b ≤ 2 ^ 10 - 1 ∧ 2 ^ 10 - 1 < low 32 s.port.c) := by
  decide +kernel

/-- QntQuantizesOrViolates, FencEncodesLevelsOrViolates: 0, -0.0 and 1.0 are in range; the patterns next to them are not. -/
theorem test_witness_float_clauses :
    (inUnit .binary32 0 ∧ inUnit .binary32 0x80000000 ∧ inUnit .binary32 0xFFFFFFFF3F800000) ∧
    (¬ inUnit .binary32 0x3F800001 ∧ ¬ inUnit .binary32 0x80000001) ∧
    (inUnit .binary64 0 ∧ inUnit .binary64 0x8000000000000000 ∧ inUnit .binary64 0x3FF0000000000000) ∧
    (¬ inUnit .binary64 0x3FF0000000000001 ∧ ¬ inUnit .binary64 0x8000000000000001) := by
  unfold inUnit; decide +kernel

/-- MaskBitsByPosition, MasksPartitionAndAxisWidth, ScatterGatherLaws, DatapathsAgree, CodeLayout: the last axis of each
dimension, two different axes, and the largest value an axis holds. -/
theorem test_witness_axes :
    1 < Dim.d2.axes ∧ 2 < Dim.d3.axes ∧ (0 < Dim.d3.axes ∧ 2 < Dim.d3.axes ∧ 0 ≠ 2) ∧
    ((0x1FFFFF : BitVec 64).toNat < 2 ^ popcount (mask .w64 .d3 2)) ∧
    ((0x3FF : BitVec 32).toNat ≤ maxc .w32 .d3) ∧
    (20 < axisBits .w64 .d3 ∧ 62 < Dim.d3.axes * axisBits .w64 .d3) := by decide +kernel

/-- GatherPacksBitsInOrder: a set mask bit and an index past the last one. -/
theorem test_witness_gather_bits :
    (0xB0 : BitVec 8).getLsbD 7 = true ∧ popcount (0xB0 : BitVec 8) ≤ 3 := by decide +kernel

/-- EncodeTermsCombineAlike, EncodeDecodeRoundTrip: all coordinates the largest in range. -/
theorem test_witness_coordinates :
    (0xFFFF : BitVec 32).toNat ≤ maxc .w32 .d2 ∧ (0xFFFFFFFF : BitVec 64).toNat ≤ maxc .w64 .d2 ∧
    (0x3FF : BitVec 32).toNat ≤ maxc .w32 .d3 ∧ (0x1FFFFF : BitVec 64).toNat ≤ maxc .w64 .d3 := by decide +kernel

/-- CodeLayout: two codes that differ outside the used bits alone. -/
theorem test_witness_code_pair :
    ∀ p < 3 * axisBits .w32 .d3, (0x40000001 : BitVec 32).getLsbD p = (0x80000001 : BitVec 32).getLsbD p := by
  decide +kernel

/-- RoundingIsNearestTiesToEven: a tie, with its two nearest representable magnitudes. -/
theorem test_witness_tie :
    0 < 2 ∧ representable .binary32 (2 ^ 23) ∧ representable .binary32 (2 ^ 23 + 1) ∧
    2 ^ 23 + 1 ≠ roundUnits .binary32 (2 ^ 24 + 1) 2 ∧
    distance (2 ^ 24 + 1) 2 (2 ^ 23 + 1) = distance (2 ^ 24 + 1) 2 (roundUnits .binary32 (2 ^ 24 + 1) 2) :=
  ⟨by decide, ⟨2 ^ 23, 0, by decide +kernel⟩, ⟨2 ^ 23 + 1, 0, by decide +kernel⟩, by decide +kernel, by decide +kernel⟩

/-- FloatPatternsHoldTheirUnits: the least subnormal, and the pattern of 1.0. -/
theorem test_witness_patterns :
    (representable .binary64 1 ∧ 1 < overflowUnits .binary64) ∧
    realOf .binary32 0x3F800000 = .finite false (oneUnits .binary32) :=
  ⟨⟨⟨1, 0, by decide +kernel⟩, by decide +kernel⟩, by decide +kernel⟩

/-- ScaleIsExact, QuantStaysWithinScale, SpecialFloatsQuantize, DequantIsFiniteAndExactAtEnds, QuantizationBound,
LevelsSurviveTheFloatRoundTrip: each legal pair, and an input at each end. -/
theorem test_witness_float_pairs :
    legalPair .binary32 .w32 ∧ legalPair .binary64 .w32 ∧ legalPair .binary64 .w64 ∧
    inrange .binary32 0x3F7FFFFF = true ∧ inrange .binary64 0x8000000000000000 = true ∧
    inrange .binary64 0x3FF0000000000000 = true ∧
    (0 < 1 ∧ 1 < 2 ^ fracBits .binary32) ∧ (2 ^ 52 - 1 < 2 ^ fracBits .binary64) ∧
    (0x3F800000 < 0x3F800001 ∧ 0x3F800001 < 2 ^ (floatBits .binary32 - 1)) ∧
    (2 ^ (floatBits .binary32 - 1) < 0x80000001 ∧ 0x80000001 < 2 * 2 ^ (floatBits .binary32 - 1)) ∧
    0xFFFFFFFF < 2 ^ Width.w32.bits ∧ maxc .w64 .d2 < 2 ^ Width.w64.bits ∧ 2 ^ 24 - 1 < 2 ^ (fracBits .binary32 + 1) := by
  unfold legalPair; decide +kernel

/-- UnreadOperandBitsAreIgnored: requests that differ in every bit the operation does not read. -/
theorem test_witness_unread_bits :
    let f := Instr.menc2W32.fields
    f.wellFormed = true ∧ (0 < portsRead f ∧ 1 < portsRead f ∧ ¬ 2 < portsRead f) ∧
    (0xFFFFFFFF00001234 : Word64).setWidth 32 = (0x1234 : Word64).setWidth 32 ∧
    (0xFFFFFFFF0000ABCD : Word64).setWidth 32 = (0xABCD : Word64).setWidth 32 := by decide +kernel

/-- UnwrittenPortsAreZero: an operation of each number of result ports. -/
theorem test_witness_result_ports :
    operate Instr.bgathD2W32A0.fields 0x3 0 0 = .ok 1 0 0 ∧
    operate Instr.fdec2F64W32.fields 0 0 0 = .ok 0 0 0 ∧
    operate Instr.mdec3W64.fields 0x7 0 0 = .ok 1 1 1 := by decide +kernel

/-- ContractMetMeansOk, OnlyAViolationFaultsOnlyResetClears: a request on the limit of its contract, in a safe unit. -/
theorem test_witness_contract_met :
    Ready (unit .checked 0x024 0x3FF 0x3FF 0x3FF) ∧ (unit .checked 0x024 0x3FF 0x3FF 0x3FF).Safe ∧
    encode .menc3W32 = 0x024 ∧ Request.meetsContract ⟨0x024, 0x3FF, 0x3FF, 0x3FF⟩ = true :=
  ⟨test_witness_ready _ _ _ _ _, rfl, by decide +kernel, by decide +kernel⟩

/-- FaultedUnitAcceptsNothing: a halted unit whose FAULT response is taken, and an idle one. -/
theorem test_witness_faulted :
    (haltedUnit false).faulted = true ∧ (haltedUnit false).port.rst = false ∧
    (∃ e rest, (haltedUnit false).queue = e :: rest ∧ e.wait = 0) ∧ (haltedUnit false).port.rspReady = true ∧
    (let s := { haltedUnit false with queue := [] }
     s.faulted = true ∧ s.queue = []) :=
  ⟨rfl, rfl, ⟨_, [], rfl, rfl⟩, rfl, rfl, rfl⟩

/-- OnlyAViolationFaultsOnlyResetClears: a step that sets FAULTED, and the two steps of a halted unit. -/
theorem test_witness_control_steps :
    (∃ t, step (unit .checked 0x024 1 0x400 0) = .next t ∧ t.faulted = true) ∧
    (∃ t, step (haltedUnit true) = .next t ∧ t.faulted = false) ∧
    (∃ t, step (haltedUnit false) = .next t ∧ t.faulted = true) ∧
    (∃ t, step (unit .unchecked 0x024 1 0x400 0) = .next t) :=
  ⟨⟨_, rfl, by decide +kernel⟩, ⟨_, rfl, rfl⟩, ⟨_, rfl, rfl⟩, ⟨_, rfl⟩⟩

/-- IllegalWordIsAnsweredIllegal: with an empty Q, and with a head response that is available and taken at the edge. -/
theorem test_witness_illegal :
    (Ready (unit .unchecked 0x204 5 5 5) ∧ (unit .unchecked 0x204 5 5 5).port.reqValid = true ∧
      decode (unit .unchecked 0x204 5 5 5).port.op = .error .reservedBits) ∧
    (let s := { unit .checked 0 5 5 5 with queue := [pendingMdec], port := ⟨false, true, 0, 5, 5, 5, true⟩ }
     Ready s ∧ s.port.reqValid = true ∧ decode s.port.op = .error .reservedClass ∧
      s.queue = [pendingMdec] ∧ pendingMdec.wait = 0 ∧ s.port.rspReady = true) :=
  ⟨⟨test_witness_ready _ _ _ _ _, rfl, by decide +kernel⟩, ⟨rfl, rfl, by decide⟩, rfl, by decide +kernel, rfl, rfl, rfl⟩

/-- OperationsWaitWhenNotReady: each reason to wait, alone. -/
theorem test_witness_waits :
    ({ unit .checked 0x001 0 0 0 with port := ⟨true, true, 0x001, 0, 0, 0, false⟩ } : State).port.rst = true ∧
    (haltedUnit false).faulted = true ∧ fullUnit.build.qdepth ≤ fullUnit.queue.length := by decide +kernel

/-- OperationFrame, ResponseDependsOnItsRequestAlone, ExecAcceptsAsRespondSays, StepRunsTheOfferedRequest,
RequestHandshakeAcceptsAtTheTail: two different ready states with the same operands, in which the request runs. -/
theorem test_witness_runs :
    let s := unit .checked 0x004 3 3 0
    let u := { s with queue := [pendingMdec], accepted := 7 }
    Ready s ∧ Ready u ∧ s.build.contractMode = u.build.contractMode ∧ s.port.a = u.port.a ∧
    Request.meetsContract ⟨encode .menc2W32, s.port.a, s.port.b, s.port.c⟩ = true ∧
    s.port.reqValid = true ∧ decode s.port.op = .ok .menc2W32 ∧ (∃ t, exec .menc2W32 s = .next t ∧ t.accepted = 1) :=
  ⟨test_witness_ready _ _ _ _ _, ⟨rfl, rfl, by decide⟩, rfl, rfl, by decide +kernel, rfl, by decide +kernel, ⟨_, rfl, rfl⟩⟩

/-- StepRunsTheOfferedRequest: an edge at which nothing is requested. -/
theorem test_witness_no_request :
    (State.reset).port.rst = false ∧ (State.reset).port.reqValid = false := ⟨rfl, rfl⟩

/-- StepRefinesTheTransactions, ResponsesLeaveInAcceptanceOrder, OfferedResponseIsHeld: the head response is available,
and is taken or not. -/
theorem test_witness_head_available :
    fullUnit.port.rst = false ∧ (∃ e rest, fullUnit.queue = e :: rest ∧ e.wait = 0) ∧ fullUnit.port.rspReady = true ∧
    (let s := { fullUnit with port := ⟨false, true, 0x003, 0xF, 0, 0, false⟩ }
     s.port.rspReady = false ∧ ∃ t, step s = .next t ∧ t.port.rst = false) :=
  ⟨rfl, ⟨_, _, rfl, rfl⟩, rfl, rfl, _, rfl, rfl⟩

/-- ResetEdgeClearsTheUnit, ResetWinsOverBothHandshakes, ReadyInTheFirstCycleAfterReset: a reset edge of a halted unit with
both handshakes offered, and the state after it. -/
theorem test_witness_reset_edge :
    (haltedUnit true).port.rst = true ∧ (haltedUnit true).port.reqValid = true ∧
    (haltedUnit true).port.rspReady = true ∧ ∃ t, step (haltedUnit true) = .next t ∧ t.port.rst = false :=
  ⟨rfl, rfl, rfl, _, rfl, rfl⟩

/-- NoResponseBeforeLatency: a legal and an illegal request that are accepted, one that is not (Q full), a head response
two edges away, and an entry behind another at the last edge of its wait. -/
theorem test_witness_latency :
    (Ready (unit .checked 0x001 0 0 0) ∧ (unit .checked 0x001 0 0 0).port.reqValid = true) ∧
    (Ready (unit .checked 0x000 0 0 0) ∧ decode (unit .checked 0x000 0 0 0).port.op = .error .reservedClass) ∧
    (fullUnit.port.rst = false ∧ ¬ (Ready fullUnit ∧ fullUnit.port.reqValid = true)) ∧
    (let s := { fullUnit with queue := [{ pendingMenc with wait := 2 }, pendingMdec] }
     ∃ e rest, s.queue = e :: rest ∧ 0 < e.wait) ∧
    (let s := { fullUnit with queue := [pendingMenc, { pendingMdec with wait := 2 }] }
     ∃ pre e post, s.queue = pre ++ e :: post ∧ pre ≠ [] ∧ 2 ≤ e.wait ∧
      ∀ p ∈ (s.port :: s.script).take 2, p.rst = false) :=
  ⟨⟨test_witness_ready _ _ _ _ _, rfl⟩, ⟨test_witness_ready _ _ _ _ _, by decide +kernel⟩,
    ⟨rfl, fun h => absurd h.1.2.2 (by decide)⟩, ⟨_, _, rfl, by decide⟩,
    ⟨[pendingMenc], _, [], rfl, by decide, by decide, by decide⟩⟩

/-- Source: spec/70_reset_and_hazards.md R180 with LATENCY = 1: an entry behind the head comes one edge nearer as the head
is delivered. -/
theorem test_entry_behind_head_counts_down :
    (match step { fullUnit with queue := [pendingMenc, { pendingMdec with wait := 2 }] } with
      | .next t => t.queue.map (·.wait)
      | .fault _ => []
      | .refused _ => []) = [1] := by decide +kernel

/-- A full Q whose head waits one edge, and a host that takes responses at three edges. -/
def patientHost : State :=
  { fullUnit with
    queue := [{ pendingMenc with wait := 1 }, pendingMdec]
    script := [⟨false, true, 0x003, 0xF, 0, 0, true⟩, ⟨false, false, 0, 0, 0, 0, true⟩] }

/-- HeadResponseIsDelivered, EveryQueuedResponseIsDelivered. -/
theorem test_witness_delivery :
    (∃ e rest, patientHost.queue = e :: rest ∧ takesResponses (e.wait + 1) patientHost) ∧
    patientHost.queue.length = patientHost.build.qdepth ∧
    (∀ e ∈ patientHost.queue, e.wait ≤ 1) ∧ takesResponses (1 + patientHost.queue.length) patientHost := by
  refine ⟨⟨_, _, rfl, ?_⟩, rfl, by decide, ?_⟩ <;> unfold takesResponses <;> decide

/-- HeldRequestStaysOffered: P4 edge 3, the request held for edge 4. -/
theorem test_witness_held_request :
    fullUnit.hostHolds ∧ fullUnit.port.rst = false ∧ fullUnit.port.reqValid = true ∧
    fullUnit.outputs.reqReady = false ∧ ∃ t, step fullUnit = .next t ∧ t.port.reqValid = true :=
  ⟨fun _ _ _ => .inr ⟨rfl, rfl, rfl, rfl, rfl⟩, rfl, rfl, by decide +kernel, _, rfl, rfl⟩

/-- ResetEdgeClearsTheUnit, InstancesAreIndependent: a platform of two instances, one of them halted. -/
theorem test_witness_platform :
    (0 ≠ 1) ∧
    (Platform.mk (haltedUnit false) [unit .checked 0x001 0 0 0]).units[1]? = some (unit .checked 0x001 0 0 0) :=
  ⟨by decide, rfl⟩

/-- Source: spec/00_scope.md R11 and spec/60_exceptions.md R166: the smallest platform has one instance, and a fault of
the first of two leaves the second as it was. -/
theorem test_platform_instances :
    (Platform.mk State.reset []).numInstances = 1 ∧
    ((Platform.mk (unit .checked 0x024 1 0x400 0) [unit .checked 0x001 0 0 0]).edge 0).units.map (·.faulted) =
      [true, false] := by decide +kernel

/-- EveryStepKeepsTheInvariant, BuildParametersNeverChange: the halted unit with its FAULT response in Q meets the
invariant, and steps. -/
theorem test_witness_invariant : (haltedUnit false).Inv ∧ ∃ t, step (haltedUnit false) = .next t := by
  have one : ∀ e ∈ (haltedUnit false).queue,
      e = ⟨⟨0x024, 1, 0x400, 0⟩, ⟨.fault, 0x240011, 0, 0⟩, 0⟩ := fun e he => by
    simpa [haltedUnit] using he
  refine ⟨⟨by decide, by decide, by decide, fun _ => ⟨.coordRange, .b, .menc3W32, by decide +kernel⟩, ?_, ?_, ?_, ?_, rfl⟩,
    _, rfl⟩
  · intro pre e post h hf
    have hl : pre.length + (post.length + 1) = 1 := by simpa [haltedUnit] using (congrArg List.length h).symm
    rw [one e (by simp [h])]
    exact ⟨rfl, List.length_eq_zero_iff.mp (by omega), rfl⟩
  · intro e he
    rw [one e he]
    exact ⟨0, by decide +kernel⟩
  · intro x hx
    cases hx
  · intro e he
    rw [one e he]
    exact Nat.zero_le _

end Sys2Proof.Tests
end

section
/-! SUPPORT. The encoder gives back the word a legal word was decoded from (30_encoding R57, R61, R67). -/

namespace Sys2Proof

/-- An OPC value that has a class is that class's code (R51). -/
theorem opcOf_of_classOf {opc : BitVec 4} {c : OpClass} (h : classOf opc = some c) : opcOf c = opc := by
  revert opc c
  decide

/-- The row found for field values has those field values (R61). -/
theorem fields_of_instrOf {f : Fields} {i : Instr} (h : instrOf f = some i) : i.fields = f :=
  eq_of_beq (List.find?_some (p := fun j : Instr => j.fields == f) h)

/-- What a word that decodes says of its row: RES is 0 and the row has the word's own fields (R57). -/
theorem fields_of_decode {op : OpWord} {i : Instr} (h : decode op = .ok i) :
    resField op = 0 ∧ ∃ c, classOf (opcField op) = some c ∧
      i.fields = ⟨c, widthField op, dimField op, axisField op, floatField op⟩ := by
  unfold decode at h
  split at h
  · cases h
  next hres =>
  split at h
  · cases h
  next c hc =>
  refine ⟨by simpa using hres, c, hc, ?_⟩
  dsimp only at h
  split at h
  · cases h
  split at h
  · cases h
  split at h
  next j hj => cases h; exact fields_of_instrOf hj
  next => cases h

/-- A one-bit field is the bit it holds. -/
theorem extractLsb'_one (op : OpWord) (k : Nat) :
    op.extractLsb' k 1 = if op.getLsbD k then 1 else 0 := by
  cases h : op.getLsbD k <;> simp [BitVec.eq_of_getLsbD_eq_iff, h]

theorem widthBit_widthField (op : OpWord) : widthBit (widthField op) = op.extractLsb' 4 1 := by
  rw [extractLsb'_one, widthField, apply_ite widthBit]; rfl

theorem dimBit_dimField (op : OpWord) : dimBit (dimField op) = op.extractLsb' 5 1 := by
  rw [extractLsb'_one, dimField, apply_ite dimBit]; rfl

theorem floatBit_floatField (op : OpWord) : floatBit (floatField op) = op.extractLsb' 8 1 := by
  rw [extractLsb'_one, floatField, apply_ite floatBit]; rfl

/-- A word is its six fields side by side (R50). -/
theorem append_fields (op : OpWord) :
    op.extractLsb' 9 23 ++ op.extractLsb' 8 1 ++ op.extractLsb' 6 2 ++ op.extractLsb' 5 1 ++ op.extractLsb' 4 1
      ++ op.extractLsb' 0 4 = op := by
  have join (lo n m : Nat) : op.extractLsb' (lo + n) m ++ op.extractLsb' lo n = op.extractLsb' lo (m + n) :=
    BitVec.extractLsb'_append_extractLsb'_eq_extractLsb' rfl
  rw [join 8 1 23, join 6 2 24, join 5 1 26, join 4 1 27, join 0 4 28, BitVec.extractLsb'_eq_self]

/-- The one word of a row is the word that decodes to it (R61, R67). -/
theorem encode_of_decode {op : OpWord} {i : Instr} (h : decode op = .ok i) : encode i = op := by
  obtain ⟨hres, c, hc, hf⟩ := fields_of_decode h
  have hres' : (0 : BitVec 23) = op.extractLsb' 9 23 := hres.symm
  simp only [encode, encodeFields, hf, opcOf_of_classOf hc, widthBit_widthField, dimBit_dimField, floatBit_floatField,
    hres', axisField, opcField]
  exact append_fields op

end Sys2Proof
end

section
/-! The wire-level step refines the transaction-level model (70_reset R181; 60_exceptions R158). -/

namespace Sys2Proof.Machine

variable {s t : State}

namespace State

@[simp] theorem txn_faulted (s : State) : s.txn.faulted = s.faulted := rfl
@[simp] theorem txn_queue (s : State) : s.txn.queue = s.queue.map (·.rsp) := rfl

/-- Passing an edge is no transaction. -/
@[simp] theorem txn_tick (s : State) : s.tick.txn = s.txn := by simp [txn, Function.comp_def]

/-- The head of Q leaves in both models (R178, R181). -/
@[simp] theorem txn_deliver (s : State) : s.deliver.txn = s.txn.deliver := by simp [txn, Txn.deliver]

@[simp] theorem txn_resetEdge (s : State) : s.resetEdge.txn = Txn.reset := rfl

/-- With rst = 0, the two models accept in the same states (R176, R181). -/
theorem canAccept_txn (h : s.port.rst = false) : s.txn.canAccept s.build.qdepth = s.reqReady := by
  rw [Bool.eq_iff_iff, reqReady_iff]
  simp [Txn.canAccept, h]

end State

/-- Acceptance appends the response to Q (R181). -/
@[simp] theorem Txn.accept_queue (mode : ContractMode) (any : Word64) (q : Request) (x : Txn) :
    (x.accept mode any q).queue = x.queue ++ [respond mode any q] := by
  unfold Txn.accept
  cases h : (respond mode any q).status <;> simp [h]

/-- Answering a legal request is `accept` with the response of `respond`, the draw being the unit's own (R158, R181). -/
theorem txn_answer {q : Request} {i : Instr} (hd : decode q.op = .ok i) :
    (s.answer q i.fields.w (operate i.fields q.a q.b q.c)).txn =
      s.txn.accept s.build.contractMode (Config.anyResult s.accepted) q := by
  cases hr : operate i.fields q.a q.b q.c with
  | ok r0 r1 r2 => simp [State.answer, State.txn, Txn.accept, respond, hd, hr]
  | violation cond idx =>
    cases hm : s.build.contractMode <;>
      simp [State.answer, State.takeViolation, State.txn, Txn.accept, respond, hd, hr, hm, faultResponse, anyResponse]

/-- Answering an illegal word is `accept` (R158, R181). -/
theorem txn_enqueue_illegal {q : Request} {why : IllegalWord} (hd : decode q.op = .error why) (any : Word64) :
    (s.enqueue q illegalResponse).txn = s.txn.accept s.build.contractMode any q := by
  simp [State.txn, Txn.accept, respond, hd, illegalResponse]

/-- The request channel of an edge with rst = 0 refines `accept` (R181). -/
theorem txn_of_requestPhase (hrst : s.port.rst = false) (h : s.requestPhase = .next t) :
    t.txn =
      if s.port.reqValid && s.txn.canAccept s.build.qdepth then
        s.txn.accept s.build.contractMode (Config.anyResult s.accepted) (s.request s.port.op)
      else s.txn := by
  rw [State.canAccept_txn hrst]
  obtain ⟨hno, he⟩ | ⟨hv, hr, i, hd, he⟩ | ⟨hv, hr, ⟨why, hd⟩, he⟩ := requestPhase_cases s <;> cases h.symm.trans he
  · obtain hno | hno := hno <;> simp [hno]
  · rw [encode_of_decode hd, hv, hr]
    exact txn_answer (q := s.request s.port.op) hd
  · rw [hv, hr]
    exact txn_enqueue_illegal (q := s.request s.port.op) hd _

/-- Answering a request delivers nothing and adds at the tail of Q alone (R24, R179). -/
theorem answer_answered_queue (s : State) (q : Request) (w : Width) (r : Result) :
    (s.answer q w r).answered = s.answered ∧ ∃ e, (s.answer q w r).queue = s.queue ++ [e] := by
  obtain ⟨rsp, -, h⟩ | ⟨-, cond, idx, -, h⟩ := State.answer_cases s q w r <;> rw [h] <;> exact ⟨rfl, _, rfl⟩

/-- The request channel delivers nothing and leaves the entries of Q in place (R24, R179). -/
theorem requestPhase_answered_queue (h : s.requestPhase = .next t) :
    t.answered = s.answered ∧ ∃ added, t.queue = s.queue ++ added := by
  obtain ⟨-, he⟩ | ⟨-, -, i, -, he⟩ | ⟨-, -, -, he⟩ := requestPhase_cases s <;> cases h.symm.trans he
  · exact ⟨rfl, [], by simp⟩
  · obtain ⟨ha, e, hq⟩ := answer_answered_queue s (s.request (encode i)) i.fields.w
      (operate i.fields s.port.a s.port.b s.port.c)
    exact ⟨ha, [e], hq⟩
  · exact ⟨rfl, _, rfl⟩

end Sys2Proof.Machine

namespace Sys2Proof.Proofs

open Sys2Proof.Machine Sys2Proof.Claims

/-- Settles O45: by the cases of the edge, with `accept` from the request channel and `deliver` from the end of the
edge. -/
theorem stepRefinesTheTransactions : Obligations.StepRefinesTheTransactions := by
  intro s
  obtain ⟨hrst, hs⟩ | ⟨hrst, u, hu, hs⟩ := step_cases s
  · exact ⟨_, 0, hs, fun _ => ⟨by simp, by simp⟩, by simp [hrst]⟩
  refine ⟨_, Config.anyResult s.accepted, hs, by simp [hrst], fun _ => ?_⟩
  intro accepted
  have haccepted : u.txn = accepted := txn_of_requestPhase hrst hu
  clear_value accepted
  subst haccepted
  obtain ⟨hans, added, hqueue⟩ := requestPhase_answered_queue hu
  obtain ⟨e, rest, hq, hw, hy, hf⟩ | ⟨hno, hf⟩ := finishEdge_cases s u hrst
  · have hhead : u.queue = e :: (rest ++ added) := by rw [hqueue, hq]; rfl
    simp [hq, hw, hy, hf, hhead, State.deliver_answered u hhead, hans, exchange]
  · rw [hf]
    split
    next => exact ⟨by simp, hans⟩
    next e rest hq => rw [if_neg (hno e rest hq)]; exact ⟨by simp, hans⟩

end Sys2Proof.Proofs
end

section
/-! The shift/mask networks of R88 and R89 give the bits of `scatter` and `gather` (00_scope R12; 41_bit_primitives R86,
R87). Every one of these functions acts bit by bit: scatters are additive for OR, gathers for XOR. Two additive functions
that agree on the single bits agree. -/

namespace Sys2Proof.Machine

variable {n : Nat}

/-- Two functions that are additive for an operation that joins disjoint values, and agree on 0 and on the single bits
below `k`, agree on every value of `k` bits. -/
theorem eq_of_additive_of_bits {op : BitVec n → BitVec n → BitVec n} (hop : ∀ x y, x &&& y = 0 → op x y = x ||| y)
    {f g : BitVec n → BitVec n} (hf : ∀ x y, f (op x y) = op (f x) (f y)) (hg : ∀ x y, g (op x y) = op (g x) (g y))
    (hzero : f 0 = g 0) {k : Nat} (hbits : ∀ i < k, f (BitVec.twoPow n i) = g (BitVec.twoPow n i))
    (x : BitVec n) (hx : ∀ i, k ≤ i → x.getLsbD i = false) : f x = g x := by
  induction k generalizing x with
  | zero =>
    rw [show x = 0 from BitVec.eq_of_getLsbD_eq fun i _ => by simp [hx i (Nat.zero_le i)]]
    exact hzero
  | succ k ih =>
    have ihx := ih (fun i hi => hbits i (by omega))
    cases hk : x.getLsbD k with
    | false =>
      refine ihx x fun i hi => ?_
      obtain rfl | hi : k = i ∨ k + 1 ≤ i := by omega
      · exact hk
      · exact hx i hi
    | true =>
      have hjoin : x = op (x &&& ~~~BitVec.twoPow n k) (BitVec.twoPow n k) := by
        rw [hop]
        · refine BitVec.eq_of_getLsbD_eq fun i hi => ?_
          obtain rfl | h := eq_or_ne i k
          · simp [hk, hi]
          · simp [h, hi]
        · simp [BitVec.and_assoc]
      have hlow := ihx (x &&& ~~~BitVec.twoPow n k) fun i hi => by
        obtain rfl | hi : k = i ∨ k + 1 ≤ i := by omega
        · simp
        · simp [hx i hi]
      rw [hjoin, hf, hg, hlow, hbits k k.lt_succ_self]

theorem xor_eq_or_of_disjoint {x y : BitVec n} (h : x &&& y = 0) : x ^^^ y = x ||| y := by
  refine BitVec.eq_of_getLsbD_eq fun i _ => ?_
  have hi : (x.getLsbD i && y.getLsbD i) = false := by rw [← BitVec.getLsbD_and, h]; exact BitVec.getLsbD_zero
  rw [BitVec.getLsbD_xor, BitVec.getLsbD_or]
  revert hi
  cases x.getLsbD i <;> cases y.getLsbD i <;> decide

/-- A value at most maxc(W, D) has no bit from axisBits(W, D) on (R71). -/
theorem getLsbD_of_le_maxc {w : Width} {d : Dim} {s : BitVec w.bits} (h : s.toNat ≤ maxc w d) {i : Nat}
    (hi : axisBits w d ≤ i) : s.getLsbD i = false := by
  have hpow : 0 < 2 ^ axisBits w d := Nat.two_pow_pos _
  have hmono : 2 ^ axisBits w d ≤ 2 ^ i := Nat.pow_le_pow_right (by decide) hi
  refine Nat.testBit_lt_two_pow ?_
  unfold maxc at h
  omega

/-! ## Additivity -/

theorem bitAt_or (a b : Bool) (p : Nat) : bitAt n (a || b) p = bitAt n a p ||| bitAt n b p := by
  cases a <;> cases b <;> simp [bitAt]

theorem getLsbD_bitAt (b : Bool) (p q : Nat) : (bitAt n b p).getLsbD q = (b && decide (q < n) && decide (q = p)) := by
  cases b with
  | false => simp [bitAt]
  | true => rw [Bool.eq_iff_iff]; simp [bitAt]; omega

theorem depositFrom_or (x y : BitVec n) (j : Nat) (ps : List Nat) :
    depositFrom (x ||| y) j ps = depositFrom x j ps ||| depositFrom y j ps := by
  induction ps generalizing j with
  | nil => simp [depositFrom]
  | cons p ps ih =>
    simp only [depositFrom, ih, BitVec.getLsbD_or, bitAt_or]
    ac_rfl

/-- `scatter` is additive for OR. -/
theorem scatter_or (x y m : BitVec n) : scatter (x ||| y) m = scatter x m ||| scatter y m :=
  depositFrom_or x y 0 (positions m)

/-- Bit `q` of an extraction is the source bit at the listed position that falls to `q` (R81). -/
theorem getLsbD_extractFrom (s : BitVec n) (j q : Nat) (ps : List Nat) :
    (extractFrom s j ps).getLsbD q =
      (decide (q < n) && decide (j ≤ q) && ps[q - j]?.any fun p => s.getLsbD p) := by
  induction ps generalizing j with
  | nil => simp [extractFrom]
  | cons p ps ih =>
    simp only [extractFrom, BitVec.getLsbD_or, getLsbD_bitAt, ih]
    obtain h | rfl | h := Nat.lt_trichotomy q j
    · simp [show ¬ j ≤ q by omega, show ¬ j + 1 ≤ q by omega, show q ≠ j by omega]
    · simp [Bool.and_comm]
    · simp [show j ≤ q by omega, show j + 1 ≤ q by omega, show q ≠ j by omega,
        show q - j = q - (j + 1) + 1 by omega]

/-- `gather` is additive for XOR. -/
theorem gather_xor (x y m : BitVec n) : gather (x ^^^ y) m = gather x m ^^^ gather y m := by
  refine BitVec.eq_of_getLsbD_eq fun q hq => ?_
  simp only [gather, BitVec.getLsbD_xor, getLsbD_extractFrom]
  cases (positions m)[q - 0]? <;> simp [hq]

theorem and_xor_right (x y m : BitVec n) : (x ^^^ y) &&& m = (x &&& m) ^^^ (y &&& m) :=
  BitVec.eq_of_getLsbD_eq fun _ _ => by simp [Bool.and_xor_distrib_right]

theorem scatterStep_or (x y : BitVec n) (km : Nat × Nat) :
    scatterStep (x ||| y) km = scatterStep x km ||| scatterStep y km := by
  unfold scatterStep
  rw [← BitVec.and_or_distrib_right, BitVec.shiftLeft_or_distrib]
  congr 1
  ac_rfl

theorem gatherStep_xor (x y : BitVec n) (km : Nat × Nat) :
    gatherStep (x ^^^ y) km = gatherStep x km ^^^ gatherStep y km := by
  unfold gatherStep
  rw [← and_xor_right, BitVec.ushiftRight_xor_distrib]
  congr 1
  ac_rfl

theorem foldl_additive {α β : Type} {op : β → β → β} {step : β → α → β}
    (h : ∀ x y a, step (op x y) a = op (step x a) (step y a)) (steps : List α) (x y : β) :
    steps.foldl step (op x y) = op (steps.foldl step x) (steps.foldl step y) := by
  induction steps generalizing x y with
  | nil => rfl
  | cons a steps ih => simp only [List.foldl_cons, h, ih]

/-- The scatter network is additive for OR. -/
theorem portableScatter_or (w : Width) (d : Dim) (ax : Nat) (x y : BitVec w.bits) :
    portableScatter w d ax (x ||| y) = portableScatter w d ax x ||| portableScatter w d ax y := by
  unfold portableScatter
  rw [foldl_additive (op := (· ||| ·)) scatterStep_or, BitVec.shiftLeft_or_distrib]

/-- The gather network is additive for XOR. -/
theorem portableGather_xor (w : Width) (d : Dim) (ax : Nat) (x y : BitVec w.bits) :
    portableGather w d ax (x ^^^ y) = portableGather w d ax x ^^^ portableGather w d ax y := by
  unfold portableGather
  rw [BitVec.ushiftRight_xor_distrib, and_xor_right,
    foldl_additive (op := (· ^^^ ·)) gatherStep_xor]

/-! ## The networks on single bits -/

theorem portable_zero {w : Width} {d : Dim} : ∀ ax < d.axes,
    portableScatter w d ax 0 = scatter 0 (mask w d ax) ∧ portableGather w d ax 0 = gather 0 (mask w d ax) := by
  cases w <;> cases d <;> decide +kernel

theorem portableScatter_twoPow {w : Width} {d : Dim} : ∀ ax < d.axes, ∀ i < axisBits w d,
    portableScatter w d ax (BitVec.twoPow w.bits i) = scatter (BitVec.twoPow w.bits i) (mask w d ax) := by
  cases w <;> cases d <;> decide +kernel

theorem portableGather_twoPow {w : Width} {d : Dim} : ∀ ax < d.axes, ∀ i < w.bits,
    portableGather w d ax (BitVec.twoPow w.bits i) = gather (BitVec.twoPow w.bits i) (mask w d ax) := by
  cases w <;> cases d <;> decide +kernel

/-- The network of R88 scatters every source that meets the precondition (R83, R86). -/
theorem portableScatter_eq_scatter {w : Width} {d : Dim} {ax : Nat} (hax : ax < d.axes) {s : BitVec w.bits}
    (hs : s.toNat ≤ maxc w d) : portableScatter w d ax s = scatter s (mask w d ax) :=
  eq_of_additive_of_bits (op := (· ||| ·)) (g := fun x => scatter x (mask w d ax)) (fun _ _ _ => rfl)
    (portableScatter_or w d ax) (fun x y => scatter_or x y _) (portable_zero ax hax).1 (portableScatter_twoPow ax hax)
    s fun _ => getLsbD_of_le_maxc hs

/-- The network of R89 gathers from every code (R86). -/
theorem portableGather_eq_gather {w : Width} {d : Dim} {ax : Nat} (hax : ax < d.axes) (c : BitVec w.bits) :
    portableGather w d ax c = gather c (mask w d ax) :=
  eq_of_additive_of_bits (op := (· ^^^ ·)) (g := fun x => gather x (mask w d ax))
    (fun _ _ => xor_eq_or_of_disjoint) (portableGather_xor w d ax) (fun x y => gather_xor x y _)
    (portable_zero ax hax).2 (portableGather_twoPow ax hax) c fun i hi => BitVec.getLsbD_of_ge c i hi

end Sys2Proof.Machine

namespace Sys2Proof.Proofs

open Sys2Proof.Machine

/-- Settles O12: both networks are additive, and agree with the native functions on the single bits. -/
theorem datapathsAgree : Obligations.DatapathsAgree := by
  intro p q w d ax s c hax
  have hscatter (path : ImplPath) (hs : s.toNat ≤ maxc w d) :
      datapathScatter path w d ax s = scatter s (mask w d ax) := by
    cases path with
    | native => rfl
    | portable => exact portableScatter_eq_scatter hax hs
  have hgather (path : ImplPath) : datapathGather path w d ax c = gather c (mask w d ax) := by
    cases path with
    | native => rfl
    | portable => exact portableGather_eq_gather hax c
  exact ⟨fun hs => (hscatter p hs).trans (hscatter q hs).symm, (hgather p).trans (hgather q).symm⟩

end Sys2Proof.Proofs
end

section
/-! Rounding to nearest, ties to even (00_scope R16). -/

namespace Sys2Proof.Machine

open Sys2Proof.Claims

variable {t : FloatType} {n num den : Nat}

/-! ## The significand's last place -/

/-- A magnitude is less than 2^(fracBits + 1) of its last places. -/
theorem lt_pow_lastPlace (t : FloatType) (n : Nat) : n < 2 ^ (fracBits t + 1 + lastPlace t n) := by
  refine Nat.lt_log2_self.trans_le (Nat.pow_le_pow_right (by decide) ?_)
  unfold lastPlace
  omega

/-- Where the last place is above the unit, the significand has its top bit. -/
theorem pow_lastPlace_le (h : lastPlace t n ≠ 0) : 2 ^ (fracBits t + lastPlace t n) ≤ n := by
  unfold lastPlace at *
  have hn : n ≠ 0 := by rintro rfl; simp at h
  exact (Nat.pow_le_pow_right (by decide) (by omega)).trans (Nat.log2_self_le hn)

/-- The last place of a magnitude whose significand has its top bit. -/
theorem lastPlace_eq {e : Nat} (hlo : 2 ^ (fracBits t + e) ≤ n) (hhi : n < 2 ^ (fracBits t + e + 1)) :
    lastPlace t n = e := by
  have hn : n ≠ 0 := by have := Nat.two_pow_pos (fracBits t + e); omega
  rw [lastPlace, (Nat.log2_eq_iff hn).mpr ⟨hlo, hhi⟩]
  omega

/-- A significand below 2^(fracBits + 1), or just 2^(fracBits + 1), makes a representable magnitude. -/
theorem representable_mul_pow {c : Nat} (hc : c ≤ 2 ^ (fracBits t + 1)) (e : Nat) : representable t (c * 2 ^ e) := by
  obtain hc | rfl := Nat.lt_or_eq_of_le hc
  · exact ⟨c, e, hc, rfl⟩
  · exact ⟨1, fracBits t + 1 + e, Nat.one_lt_two_pow (by omega), by rw [one_mul, pow_add _ _ e]⟩

/-- A representable magnitude is a multiple of 2^p or lies below 2^(fracBits + p). -/
theorem representable_cases (h : representable t n) (p : Nat) : 2 ^ p ∣ n ∨ n < 2 ^ (fracBits t + p) := by
  obtain ⟨c, e, hc, rfl⟩ := h
  obtain hpe | hpe := le_or_gt p e
  · exact .inl ((Nat.pow_dvd_pow 2 hpe).mul_left c)
  · refine .inr (lt_of_lt_of_le (Nat.mul_lt_mul_of_pos_right hc (Nat.two_pow_pos e)) ?_)
    rw [← pow_add]
    exact Nat.pow_le_pow_right (by decide) (by omega)

/-! ## Rounding a quotient to a natural number -/

/-- `roundQuot` takes the quotient or the number above it, whichever is nearer, the even one of two that are as near. -/
theorem roundQuot_cases (num den : Nat) :
    (roundQuot num den = num / den ∧ 2 * (num % den) ≤ den ∧ (2 * (num % den) = den → num / den % 2 = 0)) ∨
    (roundQuot num den = num / den + 1 ∧ den ≤ 2 * (num % den) ∧ (2 * (num % den) = den → num / den % 2 = 1)) := by
  unfold roundQuot
  dsimp only
  split <;> simp only [true_and] <;> omega

/-- A natural number's distance from a quotient, by the side of the quotient it lies on. -/
theorem distance_cases (hden : 0 < den) (k : Nat) :
    (k = num / den ∧ distance num den k = num % den) ∨
    (k = num / den + 1 ∧ distance num den k = den - num % den) ∨
    (k < num / den ∧ num % den + den ≤ distance num den k) ∨
    (num / den + 1 < k ∧ den - num % den + den ≤ distance num den k) := by
  have hlt := Nat.mod_lt num hden
  have hdiv := Nat.div_add_mod' num den
  unfold distance
  obtain h | h | h | h : k = num / den ∨ k = num / den + 1 ∨ k < num / den ∨ num / den + 1 < k := by omega
  · subst h; omega
  · have : k * den = num / den * den + den := by rw [h, Nat.add_one_mul]
    omega
  · have := Nat.mul_le_mul_right den h
    rw [Nat.add_one_mul] at this
    omega
  · have := Nat.mul_le_mul_right den h
    rw [Nat.add_one_mul, Nat.add_one_mul] at this
    omega

/-- No natural number is nearer to the quotient. -/
theorem distance_roundQuot_le (hden : 0 < den) (k : Nat) :
    distance num den (roundQuot num den) ≤ distance num den k := by
  have hlt := Nat.mod_lt num hden
  have hk := distance_cases (num := num) hden k
  have hr := distance_cases (num := num) hden (roundQuot num den)
  obtain ⟨h, hle, -⟩ | ⟨h, hle, -⟩ := roundQuot_cases num den <;> omega

/-- Where another natural number is as near, the rounded one is even. -/
theorem roundQuot_even_of_tie (hden : 0 < den) {k : Nat} (hne : k ≠ roundQuot num den)
    (htie : distance num den k = distance num den (roundQuot num den)) : roundQuot num den % 2 = 0 := by
  have hlt := Nat.mod_lt num hden
  have hk := distance_cases (num := num) hden k
  have hr := distance_cases (num := num) hden (roundQuot num den)
  obtain ⟨h, hle, heven⟩ | ⟨h, hle, heven⟩ := roundQuot_cases num den <;> omega

/-- A distance on the grid of the multiples of `g`. -/
theorem distance_mul (k g : Nat) : distance num den (k * g) = distance num (den * g) k := by
  unfold distance
  rw [Nat.mul_assoc, Nat.mul_comm g den]

/-- Below the quotient, a smaller number is farther. -/
theorem distance_lt_of_lt {m k : Nat} (hmk : m < k) (hden : 0 < den) (hk : k ≤ num / den) :
    distance num den k < distance num den m := by
  have hnum : k * den ≤ num := (Nat.le_div_iff_mul_le hden).mp hk
  have hlt : m * den < k * den := Nat.mul_lt_mul_of_pos_right hmk hden
  unfold distance
  omega

/-! ## Rounding to the float type -/

/-- The rounded significand is at most 2^(fracBits + 1). -/
theorem roundQuot_le_pow (t : FloatType) (num den : Nat) :
    roundQuot num (den * 2 ^ lastPlace t (num / den)) ≤ 2 ^ (fracBits t + 1) := by
  have hq : num / (den * 2 ^ lastPlace t (num / den)) < 2 ^ (fracBits t + 1) := by
    rw [← Nat.div_div_eq_div_mul, Nat.div_lt_iff_lt_mul (Nat.two_pow_pos _), ← pow_add]
    exact lt_pow_lastPlace t _
  obtain ⟨h, -, -⟩ | ⟨h, -, -⟩ := roundQuot_cases num (den * 2 ^ lastPlace t (num / den)) <;> omega

/-- A representable magnitude is on the grid of the rounding, or a grid point below the quotient is nearer. -/
theorem representable_on_grid_or_farther (hden : 0 < den) {m : Nat} (hm : representable t m) :
    (∃ k, m = k * 2 ^ lastPlace t (num / den)) ∨
    ∃ k, distance num den (k * 2 ^ lastPlace t (num / den)) < distance num den m := by
  obtain ⟨k, hk⟩ | hlt := representable_cases hm (lastPlace t (num / den))
  · exact .inl ⟨k, by rw [hk, Nat.mul_comm]⟩
  obtain hzero | hpos := Nat.eq_zero_or_pos (lastPlace t (num / den))
  · exact .inl ⟨m, by simp [hzero]⟩
  · refine .inr ⟨2 ^ fracBits t, ?_⟩
    rw [← pow_add]
    exact distance_lt_of_lt hlt hden (pow_lastPlace_le hpos.ne')

end Sys2Proof.Machine

namespace Sys2Proof.Proofs

open Sys2Proof.Machine Sys2Proof.Claims

/-- Settles O21: `RN_T` rounds on the grid of the quotient's last place, and every representable magnitude off that grid
lies farther than a point of it. -/
theorem roundingIsNearestTiesToEven : Obligations.RoundingIsNearestTiesToEven := by
  intro t num den hden
  refine ⟨representable_mul_pow (roundQuot_le_pow t num den) _, fun m hm => ?_⟩
  have hgrid : 0 < den * 2 ^ lastPlace t (num / den) := Nat.mul_pos hden (Nat.two_pow_pos _)
  have hbest (k : Nat) : distance num den (roundUnits t num den) ≤
      distance num den (k * 2 ^ lastPlace t (num / den)) := by
    rw [roundUnits, distance_mul, distance_mul]
    exact distance_roundQuot_le hgrid k
  obtain ⟨k, rfl⟩ | ⟨k, hk⟩ := representable_on_grid_or_farther (num := num) hden hm
  · refine ⟨hbest k, fun hne htie => ?_⟩
    have heven : roundQuot num (den * 2 ^ lastPlace t (num / den)) % 2 = 0 := by
      rw [roundUnits] at hne htie
      rw [distance_mul, distance_mul] at htie
      exact roundQuot_even_of_tie hgrid (fun h => hne (h ▸ rfl)) htie
    exact ⟨roundQuot num (den * 2 ^ lastPlace t (num / den)) / 2, by
      rw [Nat.mul_div_cancel' (Nat.dvd_of_mod_eq_zero heven), roundUnits]⟩
  · have hlt := (hbest k).trans_lt hk
    exact ⟨hlt.le, fun _ htie => absurd htie hlt.ne'⟩

end Sys2Proof.Proofs
end

section
/-! Float patterns hold their magnitudes in units (00_scope R16). -/

namespace Sys2Proof.Machine

open Sys2Proof.Claims

variable {t : FloatType}

/-! ## The fields of a pattern -/

/-- A pattern is its sign, exponent and fraction (R16). -/
theorem floatBits_eq (t : FloatType) : floatBits t = fracBits t + expBits t + 1 := by cases t <;> rfl

/-- The sign bit is 0 exactly when the pattern, as a number, lies below it (R16). -/
theorem signOf_eq_false_iff {v : BitVec (floatBits t)} :
    signOf t v = false ↔ v.toNat < 2 ^ (fracBits t + expBits t) := by
  have hv : v.toNat < 2 ^ (fracBits t + expBits t) * 2 := by
    rw [← pow_succ, ← floatBits_eq]
    exact v.isLt
  have hdiv : v.toNat / 2 ^ (fracBits t + expBits t) < 2 := Nat.div_lt_of_lt_mul hv
  rw [signOf, BitVec.getLsbD, Nat.testBit_eq_decide_div_mod_eq, decide_eq_false_iff_not, Nat.mod_eq_of_lt hdiv,
    ← Nat.div_eq_zero_iff_lt (Nat.two_pow_pos _)]
  generalize v.toNat / 2 ^ (fracBits t + expBits t) = b at hdiv ⊢
  omega

/-- The pattern with sign 0 and the given exponent and fraction fields. -/
def patternOf (t : FloatType) (e f : Nat) : BitVec (floatBits t) := BitVec.ofNat (floatBits t) (e * 2 ^ fracBits t + f)

section Fields

variable {e f : Nat} (he : e < 2 ^ expBits t) (hf : f < 2 ^ fracBits t)

include he hf

theorem toNat_patternOf : (patternOf t e f).toNat = e * 2 ^ fracBits t + f ∧
    e * 2 ^ fracBits t + f < 2 ^ (fracBits t + expBits t) := by
  have hlt : e * 2 ^ fracBits t + f < 2 ^ (fracBits t + expBits t) := by
    rw [pow_add, Nat.mul_comm (2 ^ fracBits t)]
    have := Nat.mul_le_mul_right (2 ^ fracBits t) he
    rw [Nat.succ_mul] at this
    omega
  refine ⟨?_, hlt⟩
  rw [patternOf, BitVec.toNat_ofNat, floatBits_eq]
  exact Nat.mod_eq_of_lt (hlt.trans (Nat.pow_lt_pow_succ (by decide)))

theorem signOf_patternOf : signOf t (patternOf t e f) = false := by
  obtain ⟨hnat, hlt⟩ := toNat_patternOf he hf
  rwa [signOf_eq_false_iff, hnat]

theorem expOf_patternOf : expOf t (patternOf t e f) = e := by
  rw [expOf, (toNat_patternOf he hf).1, Nat.mul_comm, Nat.mul_add_div (Nat.two_pow_pos _), Nat.div_eq_of_lt hf,
    Nat.add_zero, Nat.mod_eq_of_lt he]

theorem fracOf_patternOf : fracOf t (patternOf t e f) = f := by
  rw [fracOf, (toNat_patternOf he hf).1, Nat.mul_add_mod', Nat.mod_eq_of_lt hf]

end Fields

/-- A pattern with sign 0 is that of its exponent and fraction fields (R16). -/
theorem eq_patternOf {v : BitVec (floatBits t)} (h : signOf t v = false) : v = patternOf t (expOf t v) (fracOf t v) := by
  have hexp : v.toNat / 2 ^ fracBits t < 2 ^ expBits t :=
    Nat.div_lt_of_lt_mul (by rw [← pow_add]; exact signOf_eq_false_iff.mp h)
  rw [patternOf, expOf, fracOf, Nat.mod_eq_of_lt hexp, Nat.div_add_mod', BitVec.ofNat_toNat, BitVec.setWidth_eq]

/-! ## The magnitude of the fields -/

/-- The magnitude in units of an exponent and a fraction field (R16). -/
def fieldUnits (t : FloatType) (e f : Nat) : Nat := if e = 0 then f else (2 ^ fracBits t + f) * 2 ^ (e - 1)

/-- The first magnitude beyond the type is the one of the exponent field of the infinities (R16). -/
theorem overflowUnits_eq (t : FloatType) : overflowUnits t = 2 ^ (fracBits t + (2 ^ expBits t - 2)) := by
  have hexp : bias t - 1 + fracBits t + (bias t + 1) = fracBits t + (2 ^ expBits t - 2) := by cases t <;> decide
  rw [overflowUnits, oneUnits, ← pow_add, hexp]

/-- What a finite pattern with sign 0 says: it is the pattern of finite fields, and its magnitude is theirs (R16). -/
theorem realOf_eq_finite_iff {v : BitVec (floatBits t)} {n : Nat} :
    realOf t v = .finite false n ↔
      ∃ e f, e < 2 ^ expBits t - 1 ∧ f < 2 ^ fracBits t ∧ v = patternOf t e f ∧ n = fieldUnits t e f := by
  constructor
  · intro h
    have hexp : expOf t v < 2 ^ expBits t := Nat.mod_lt _ (Nat.two_pow_pos _)
    unfold realOf at h
    split at h
    · split at h <;> cases h
    · simp only [FloatVal.finite.injEq] at h
      obtain ⟨hsign, rfl⟩ := h
      exact ⟨_, _, by omega, Nat.mod_lt _ (Nat.two_pow_pos _), eq_patternOf hsign, rfl⟩
  · rintro ⟨e, f, he, hf, rfl, rfl⟩
    have he' : e < 2 ^ expBits t := by omega
    simp only [realOf, unitsOf, expOf_patternOf he' hf, fracOf_patternOf he' hf, signOf_patternOf he' hf, he.ne, if_false,
      fieldUnits]

/-- The magnitude of finite fields: representable, below overflow, and encoded by them (R16). -/
theorem fieldUnits_spec {e f : Nat} (he : e < 2 ^ expBits t - 1) (hf : f < 2 ^ fracBits t) :
    representable t (fieldUnits t e f) ∧ fieldUnits t e f < overflowUnits t ∧
      bitsOfUnits t (fieldUnits t e f) = patternOf t e f := by
  rw [overflowUnits_eq]
  obtain _ | p := e
  · have hn : fieldUnits t 0 f = f := rfl
    rw [hn]
    refine ⟨⟨f, 0, ?_, by simp⟩, hf.trans_le (Nat.pow_le_pow_right (by decide) (by omega)), ?_⟩
    · rw [pow_succ]; omega
    · rw [bitsOfUnits, if_pos hf, patternOf, Nat.zero_mul, Nat.zero_add]
  · have hn : fieldUnits t (p + 1) f = (2 ^ fracBits t + f) * 2 ^ p := rfl
    rw [hn]
    have hpow : 0 < 2 ^ p := Nat.two_pow_pos p
    have hsig : 2 ^ fracBits t + f < 2 ^ (fracBits t + 1) := by rw [pow_succ]; omega
    have hlo : 2 ^ (fracBits t + p) ≤ (2 ^ fracBits t + f) * 2 ^ p := by
      rw [pow_add]
      exact Nat.mul_le_mul_right _ (Nat.le_add_right _ _)
    have hhi : (2 ^ fracBits t + f) * 2 ^ p < 2 ^ (fracBits t + p + 1) := by
      rw [show fracBits t + p + 1 = fracBits t + 1 + p by omega, pow_add]
      exact Nat.mul_lt_mul_of_pos_right hsig hpow
    have hnormal : ¬ (2 ^ fracBits t + f) * 2 ^ p < 2 ^ fracBits t :=
      Nat.not_lt.mpr ((Nat.pow_le_pow_right (by decide) (Nat.le_add_right _ _)).trans hlo)
    refine ⟨⟨_, p, hsig, rfl⟩, hhi.trans_le (Nat.pow_le_pow_right (by decide) (by omega)), ?_⟩
    rw [bitsOfUnits, if_neg hnormal, lastPlace_eq hlo hhi, Nat.mul_div_cancel _ hpow, Nat.add_sub_cancel_left, patternOf]

/-- Every representable magnitude below overflow is that of finite fields (R16). -/
theorem exists_fieldUnits {n : Nat} (h : representable t n) (hlt : n < overflowUnits t) :
    ∃ e f, e < 2 ^ expBits t - 1 ∧ f < 2 ^ fracBits t ∧ fieldUnits t e f = n := by
  have hexp : 2 < 2 ^ expBits t := by cases t <;> decide
  obtain hsub | hnormal := Nat.lt_or_ge n (2 ^ fracBits t)
  · exact ⟨0, n, by omega, hsub, rfl⟩
  have hlo : 2 ^ (fracBits t + lastPlace t n) ≤ n := by
    obtain hzero | hpos := eq_or_ne (lastPlace t n) 0
    · simpa [hzero] using hnormal
    · exact pow_lastPlace_le hpos
  have hhi := lt_pow_lastPlace t n
  have hgrid : 2 ^ lastPlace t n ∣ n := (representable_cases h _).resolve_right (Nat.not_lt.mpr hlo)
  generalize lastPlace t n = p at hlo hhi hgrid
  obtain ⟨c, rfl⟩ := hgrid
  rw [overflowUnits_eq] at hlt
  have hp : p < 2 ^ expBits t - 2 :=
    Nat.lt_of_add_lt_add_left ((Nat.pow_lt_pow_iff_right (by decide)).mp (hlo.trans_lt hlt))
  rw [Nat.mul_comm, pow_add] at hlo hhi
  have hc : 2 ^ fracBits t ≤ c := Nat.le_of_mul_le_mul_right hlo (Nat.two_pow_pos p)
  have hc' : c < 2 ^ (fracBits t + 1) := Nat.lt_of_mul_lt_mul_right hhi
  rw [pow_succ] at hc'
  refine ⟨p + 1, c - 2 ^ fracBits t, by omega, by omega, ?_⟩
  rw [fieldUnits, if_neg p.succ_ne_zero, Nat.add_sub_cancel, Nat.add_sub_cancel' hc, Nat.mul_comm]

end Sys2Proof.Machine

namespace Sys2Proof.Proofs

open Sys2Proof.Machine Sys2Proof.Claims

/-- Settles O22: the finite fields, the patterns with sign 0 and the representable magnitudes below overflow correspond. -/
theorem floatPatternsHoldTheirUnits : Obligations.FloatPatternsHoldTheirUnits := by
  refine fun t => ⟨fun n hn hlt => ?_, fun v n h => ?_⟩
  · obtain ⟨e, f, he, hf, rfl⟩ := exists_fieldUnits hn hlt
    exact realOf_eq_finite_iff.mpr ⟨e, f, he, hf, (fieldUnits_spec he hf).2.2, rfl⟩
  · obtain ⟨e, f, he, hf, rfl, rfl⟩ := realOf_eq_finite_iff.mp h
    exact fieldUnits_spec he hf

end Sys2Proof.Proofs
end

section
/-! What accepting a request does to the unit, and what the rest of an edge keeps (60_exceptions R152 to R158; 70_reset
R171, R176 to R181). -/

namespace Sys2Proof.Machine

variable {s t u : State}

/-- The one way a response answers FAULT: the build is CHECKED, the word is legal and its operation raises a violation
(R152, R157). -/
theorem respond_fault {mode : ContractMode} {any : Word64} {q : Request} (h : (respond mode any q).status = .fault) :
    mode = .checked ∧ ∃ i cond idx, decode q.op = .ok i ∧ operate i.fields q.a q.b q.c = .violation cond idx ∧
      (respond mode any q).r0 = diagWord cond idx q.op := by
  cases hd : decode q.op with
  | error why => simp [respond, hd, illegalResponse] at h
  | ok i =>
    cases hr : operate i.fields q.a q.b q.c with
    | ok r0 r1 r2 => simp [respond, hd, hr] at h
    | violation cond idx =>
      cases mode with
      | checked => exact ⟨rfl, i, cond, idx, rfl, hr, by simp [respond, hd, hr, faultResponse]⟩
      | unchecked => simp [respond, hd, hr, anyResponse] at h

/-- A request that raises a violation does not meet its contract (R150). -/
theorem meetsContract_of_violation {q : Request} {i : Instr} {cond : Cond} {idx : OperandIndex}
    (hd : decode q.op = .ok i) (hv : operate i.fields q.a q.b q.c = .violation cond idx) : q.meetsContract = false := by
  simp [Request.meetsContract, hd, hv]

namespace State

/-! ## Accepting a request -/

/-- R181's `accept` on the state of the wires: the request joins Q with its response, and a FAULT sets FAULTED and DIAG.
`requestPhase_cases_accept` ties it to the step. -/
def accept (s : State) (q : Request) (r : Response) : State :=
  match r.status with
  | .fault => { s.enqueue q r with faulted := true, diag := r.r0 }
  | .ok | .illegal => s.enqueue q r

/-- Acceptance is `enqueue`, with FAULTED and DIAG recorded for a FAULT response alone. -/
theorem accept_cases (s : State) (q : Request) (r : Response) :
    (r.status ≠ .fault ∧ s.accept q r = s.enqueue q r) ∨
    (r.status = .fault ∧ s.accept q r = { s.enqueue q r with faulted := true, diag := r.r0 }) := by
  unfold accept
  cases r.status <;> simp

section
variable (s : State) (q : Request) (r : Response)

@[simp] theorem accept_queue : (s.accept q r).queue = (s.enqueue q r).queue := by
  obtain ⟨-, h⟩ | ⟨-, h⟩ := accept_cases s q r <;> rw [h]
@[simp] theorem accept_build : (s.accept q r).build = s.build := by
  obtain ⟨-, h⟩ | ⟨-, h⟩ := accept_cases s q r <;> rw [h] <;> rfl
@[simp] theorem accept_script : (s.accept q r).script = s.script := by
  obtain ⟨-, h⟩ | ⟨-, h⟩ := accept_cases s q r <;> rw [h] <;> rfl
@[simp] theorem accept_answered : (s.accept q r).answered = s.answered := by
  obtain ⟨-, h⟩ | ⟨-, h⟩ := accept_cases s q r <;> rw [h] <;> rfl
@[simp] theorem accept_dropped : (s.accept q r).dropped = s.dropped := by
  obtain ⟨-, h⟩ | ⟨-, h⟩ := accept_cases s q r <;> rw [h] <;> rfl
@[simp] theorem accept_accepted : (s.accept q r).accepted = s.accepted + 1 := by
  obtain ⟨-, h⟩ | ⟨-, h⟩ := accept_cases s q r <;> rw [h] <;> rfl

@[simp] theorem accept_faulted : (s.accept q r).faulted = (s.faulted || r.status == .fault) := by
  obtain ⟨hs, h⟩ | ⟨hs, h⟩ := accept_cases s q r <;> rw [h] <;> simp [hs]
@[simp] theorem accept_diag : (s.accept q r).diag = if r.status = .fault then r.r0 else s.diag := by
  obtain ⟨hs, h⟩ | ⟨hs, h⟩ := accept_cases s q r <;> rw [h] <;> simp [hs]

/-- Once the edge has passed, the new entry has at most LATENCY - 1 and the free delay to wait (R180). -/
theorem accept_tick_queue :
    (s.accept q r).tick.queue =
      s.tick.queue ++ [⟨q, r, s.build.extraCycles + (Config.responseSlack s.accepted).val⟩] := by
  simp [Build.latency]

end

/-- Answering a legal request is accepting it with the response of `respond`, the draw being the unit's own (R158). -/
theorem answer_eq_accept {q : Request} {i : Instr} (hd : decode q.op = .ok i) :
    s.answer q i.fields.w (operate i.fields q.a q.b q.c) =
      s.accept q (respond s.build.contractMode (Config.anyResult s.accepted) q) := by
  cases hr : operate i.fields q.a q.b q.c with
  | ok r0 r1 r2 => simp [answer, accept, respond, hd, hr]
  | violation cond idx =>
    cases hm : s.build.contractMode <;>
      simp [answer, takeViolation, accept, respond, hd, hr, hm, faultResponse, anyResponse]

/-- The request channel accepts the request on the wires with an answer to it, or changes nothing (R176, R181). -/
theorem requestPhase_cases_accept (h : s.requestPhase = .next u) :
    ((s.port.reqValid = false ∨ s.reqReady = false) ∧ u = s) ∨
    (s.port.reqValid = true ∧ s.reqReady = true ∧ ∃ any,
      u = s.accept (s.request s.port.op) (respond s.build.contractMode any (s.request s.port.op))) := by
  obtain ⟨hno, he⟩ | ⟨hv, hr, i, hd, he⟩ | ⟨hv, hr, ⟨why, hd⟩, he⟩ := requestPhase_cases s <;> cases h.symm.trans he
  · exact .inl ⟨hno, rfl⟩
  · rw [encode_of_decode hd]
    exact .inr ⟨hv, hr, _, answer_eq_accept (q := s.request s.port.op) hd⟩
  · refine .inr ⟨hv, hr, 0, ?_⟩
    have hresp : respond s.build.contractMode 0 (s.request s.port.op) = illegalResponse := by simp [respond, hd]
    rw [hresp]
    rfl

/-! ## The end of the edge -/

@[simp] theorem finishEdge_faulted (s u : State) : (finishEdge s u).faulted = u.faulted := by
  unfold finishEdge; split <;> simp
@[simp] theorem finishEdge_diag (s u : State) : (finishEdge s u).diag = u.diag := by unfold finishEdge; split <;> simp
@[simp] theorem finishEdge_build (s u : State) : (finishEdge s u).build = u.build := by unfold finishEdge; split <;> simp
@[simp] theorem finishEdge_port (s u : State) : (finishEdge s u).port = nextPort u.script := by
  unfold finishEdge; split <;> simp
@[simp] theorem finishEdge_script (s u : State) : (finishEdge s u).script = u.script.tail := by
  unfold finishEdge; split <;> simp

/-- The head of Q leaves alike before and after the waits are counted down. -/
theorem tick_deliver (s : State) : s.deliver.tick = s.tick.deliver := by
  cases hq : s.queue with
  | nil => rw [deliver_of_empty s hq, deliver_of_empty s.tick (by simp [hq])]
  | cons e rest => simp [deliver, tick, hq]

/-- The requests answered and in flight, oldest first (R24, R34). -/
def requests (s : State) : List Request := s.answered.map (·.req) ++ s.queue.map (·.req)

@[simp] theorem requests_tick (s : State) : s.tick.requests = s.requests := by simp [requests, Function.comp_def]

/-- A delivery moves a request from Q to the answered ones (R178). -/
@[simp] theorem requests_deliver (s : State) : s.deliver.requests = s.requests := by
  cases hq : s.queue with
  | nil => rw [deliver_of_empty s hq]
  | cons e rest => simp [requests, deliver_answered s hq, hq]

@[simp] theorem requests_finishEdge (s u : State) : (finishEdge s u).requests = u.requests := by
  unfold finishEdge; split <;> simp

@[simp] theorem requests_accept (s : State) (q : Request) (r : Response) :
    (s.accept q r).requests = s.requests ++ [q] := by simp [requests]

end State
end Sys2Proof.Machine
end

section
/-! The invariant of the unit, part by part of an edge (10_state R22 to R24; 70_reset R171, R179, R180). Between the
request channel and the end of an edge a new entry still has the edge's own cycle to wait, so the invariant is judged
after `tick` there; a delivery keeps it wherever it stands (`State.tick_deliver`). -/

namespace Sys2Proof.Machine.State.Inv

variable {s u : State}

/-- A unit that is not FAULTED has no FAULT response in Q (R22, R153). -/
theorem status_ne_fault (h : s.Inv) (hf : s.faulted = false) {e : Entry} (he : e ∈ s.queue) : e.rsp.status ≠ .fault := by
  intro hs
  obtain ⟨pre, post, hq⟩ := List.append_of_mem he
  obtain ⟨htrue, -, -⟩ := h.faultLast pre e post hq hs
  simp [hf] at htrue

/-- The reset state meets the invariant in every build: Q is empty, and nothing was accepted (R33). -/
theorem reset : State.reset.Inv where
  depth := Nat.zero_le _
  unchecked _ := rfl
  diagClear _ := rfl
  diagSet hf := by cases hf
  faultLast pre e post hq := by simp [State.reset] at hq
  queued e he := by cases he
  delivered x hx := by cases hx
  waits e he := by cases he
  counted := rfl

/-- A reset edge leaves an empty Q whose requests are counted as dropped (R171). -/
theorem resetEdge (h : s.Inv) : s.resetEdge.Inv where
  depth := Nat.zero_le _
  unchecked _ := rfl
  diagClear _ := rfl
  diagSet hf := by simp at hf
  faultLast pre e post hq := by simp at hq
  queued e he := by simp at he
  delivered := h.delivered
  waits e he := by simp at he
  counted := by have := h.counted; simp; omega

/-- Passing an edge only shortens waits (R180). -/
theorem tick (h : s.Inv) : s.tick.Inv where
  depth := by simpa using h.depth
  unchecked := h.unchecked
  diagClear := h.diagClear
  diagSet := h.diagSet
  faultLast pre e post hq hs := by
    obtain ⟨pre', rest, hq', -, hrest⟩ := List.map_eq_append_iff.mp hq
    obtain ⟨e', post', rfl, rfl, rfl⟩ := List.map_eq_cons_iff.mp hrest
    obtain ⟨hf, rfl, hd⟩ := h.faultLast pre' e' post' hq' hs
    exact ⟨hf, rfl, hd⟩
  queued e he := by
    obtain ⟨e', he', rfl⟩ := List.mem_map.mp he
    exact h.queued e' he'
  delivered := h.delivered
  waits e he := by
    obtain ⟨e', he', rfl⟩ := List.mem_map.mp he
    exact (Nat.sub_le _ _).trans (h.waits e' he')
  counted := by simpa using h.counted

/-- A delivery moves the head of Q and its answer to the observation (R178). -/
theorem deliver (h : s.Inv) : s.deliver.Inv := by
  cases hq : s.queue with
  | nil => rwa [deliver_of_empty s hq]
  | cons head rest =>
    have hmem : ∀ e ∈ s.deliver.queue, e ∈ s.queue := by simp +contextual [hq]
    exact {
      depth := by have := h.depth; simp [hq] at this ⊢; omega
      unchecked := by simpa using h.unchecked
      diagClear := by simpa using h.diagClear
      diagSet := by simpa using h.diagSet
      faultLast := fun pre e post hq' hs => by
        simpa using h.faultLast (head :: pre) e post (by simpa [hq] using hq') hs
      queued := fun e he => by simpa using h.queued e (hmem e he)
      delivered := fun x hx => by
        rw [deliver_answered s hq, List.mem_append, List.mem_singleton] at hx
        obtain hx | rfl := hx
        · simpa using h.delivered x hx
        · simpa using h.queued head (by simp [hq])
      waits := fun e he => by simpa using h.waits e (hmem e he)
      counted := by have := h.counted; simp [hq, deliver_answered s hq] at this ⊢; omega }

/-- Accepting a request and passing the edge keeps the invariant: the unit had room and was not FAULTED, so a FAULT
response can only be the new one, at the tail (R153, R176). -/
theorem accept_tick (h : s.Inv) (hr : s.reqReady = true) (q : Request) (any : Word64) :
    (s.accept q (respond s.build.contractMode any q)).tick.Inv := by
  obtain ⟨-, hf, hroom⟩ := reqReady_iff.mp hr
  have hqueue := accept_tick_queue s q (respond s.build.contractMode any q)
  have hviolates := respond_fault (mode := s.build.contractMode) (any := any) (q := q)
  generalize hresp : respond s.build.contractMode any q = r at hqueue hviolates ⊢
  refine ⟨?depth, ?unchecked, ?diagClear, ?diagSet, ?faultLast, ?queued, ?delivered, ?waits, ?counted⟩
  case depth => simpa [hqueue] using hroom
  case unchecked =>
    intro hm
    have hs : r.status ≠ .fault := fun hs => by simp [(hviolates hs).1] at hm
    simpa [hf] using hs
  case diagClear =>
    intro hc
    have hs : r.status ≠ .fault := by simpa [hf] using hc
    simpa [hs] using h.diagClear hf
  case diagSet =>
    intro hc
    have hs : r.status = .fault := by simpa [hf] using hc
    obtain ⟨-, i, cond, idx, hd, -, hr0⟩ := hviolates hs
    exact ⟨cond, idx, i, by simp [hs, hr0, encode_of_decode hd]⟩
  case faultLast =>
    intro pre e post hq hs
    have hnew : e ∉ s.tick.queue := fun he => h.tick.status_ne_fault hf he hs
    rw [hqueue] at hq
    obtain rfl | ⟨post', y, rfl⟩ := List.eq_nil_or_concat post
    · obtain rfl := List.singleton_inj.mp (List.append_inj_right' hq rfl)
      have hs' : r.status = .fault := hs
      simp [hs']
    · have hold : s.tick.queue = pre ++ e :: post' :=
        List.append_inj_left' (t₂ := [y]) (hq.trans (by simp)) rfl
      exact absurd (hold ▸ List.mem_append_right pre List.mem_cons_self) hnew
  case queued =>
    intro e he
    rw [hqueue, List.mem_append, List.mem_singleton] at he
    obtain he | rfl := he
    · simpa using h.tick.queued e he
    · exact ⟨any, by simp [hresp]⟩
  case delivered => simpa using h.delivered
  case waits =>
    intro e he
    rw [hqueue, List.mem_append, List.mem_singleton] at he
    obtain he | rfl := he
    · simpa using h.tick.waits e he
    · have hslack := (Config.responseSlack s.accepted).isLt
      simp
      omega
  case counted => have := h.counted; simp; omega

/-- The request channel and the passing of the edge keep the invariant. -/
theorem tick_of_requestPhase (h : s.Inv) (hu : s.requestPhase = .next u) : u.tick.Inv := by
  obtain ⟨-, rfl⟩ | ⟨-, hr, any, rfl⟩ := requestPhase_cases_accept hu
  · exact h.tick
  · exact h.accept_tick hr _ any

end Sys2Proof.Machine.State.Inv

namespace Sys2Proof.Proofs

open Sys2Proof.Machine Sys2Proof.Claims

/-- Settles O59: by the cases of the edge, a reset or the request channel and then at most one delivery. -/
theorem everyStepKeepsTheInvariant : Obligations.EveryStepKeepsTheInvariant := by
  intro s t h hst
  obtain ⟨-, hs⟩ | ⟨hrst, u, hu, hs⟩ := step_cases s <;> cases hst.symm.trans hs
  · exact h.resetEdge.tick
  · obtain ⟨-, -, -, -, -, hf⟩ | ⟨-, hf⟩ := finishEdge_cases s u hrst <;> rw [hf]
    · rw [State.tick_deliver]
      exact (h.tick_of_requestPhase hu).deliver
    · exact h.tick_of_requestPhase hu

end Sys2Proof.Proofs
end

section
/-! What an edge does, by its cases: what changes FAULTED and DIAG, what the two channels do to Q, and what the unit
drives (10_state R22 to R33; 70_reset R171 to R179). -/

namespace Sys2Proof.Machine

theorem nextPort_eq_headD (ports : List Port) : nextPort ports = ports.headD Port.idle := by cases ports <;> rfl

namespace State

variable {s u : State}

@[simp] theorem outputs_reqReady (s : State) : s.outputs.reqReady = s.reqReady := by unfold outputs; split <;> rfl

/-- The response wires carry the head's response while it is offered (R178). -/
theorem outputs_of_head {e : Entry} {rest : List Entry} (hrst : s.port.rst = false) (hq : s.queue = e :: rest)
    (hw : e.wait = 0) :
    s.outputs = ⟨s.reqReady, true, statusCode e.rsp.status, e.rsp.r0, e.rsp.r1, e.rsp.r2, s.faulted, s.diag⟩ := by
  simp [outputs, hrst, available_eq_some.mpr ⟨rest, hq, hw⟩]

/-- The request channel leaves the build and the script (R30). -/
theorem requestPhase_build_script (h : s.requestPhase = .next u) : u.build = s.build ∧ u.script = s.script := by
  obtain ⟨-, rfl⟩ | ⟨-, -, any, rfl⟩ := requestPhase_cases_accept h <;> simp

/-- The request channel changes FAULTED and DIAG by accepting a violating request in a CHECKED build, and by nothing
else (R22, R153, R161). -/
theorem requestPhase_faulted (h : s.requestPhase = .next u) :
    (u.faulted = s.faulted ∧ u.diag = s.diag) ∨
    (s.faulted = false ∧ u.faulted = true ∧ s.build.contractMode = .checked ∧ s.port.reqValid = true ∧
      ∃ i cond idx, decode s.port.op = .ok i ∧
        operate i.fields s.port.a s.port.b s.port.c = .violation cond idx ∧ u.diag = diagWord cond idx s.port.op) := by
  obtain ⟨-, rfl⟩ | ⟨hv, hr, any, rfl⟩ := requestPhase_cases_accept h
  · exact .inl ⟨rfl, rfl⟩
  obtain ⟨-, hf, -⟩ := reqReady_iff.mp hr
  by_cases hs : (respond s.build.contractMode any (s.request s.port.op)).status = .fault
  · obtain ⟨hm, i, cond, idx, hd, hviol, hr0⟩ := respond_fault hs
    exact .inr ⟨hf, by simp [hs], hm, hv, i, cond, idx, hd, hviol, by simp [hs, hr0]⟩
  · exact .inl (by simp [hs])

end State

end Sys2Proof.Machine

namespace Sys2Proof.Proofs

open Sys2Proof.Machine Sys2Proof.Claims

/-- Settles O39: a reset edge clears FAULTED, and with rst = 0 the request channel alone can set it. -/
theorem onlyAViolationFaultsOnlyResetClears : Obligations.OnlyAViolationFaultsOnlyResetClears := by
  intro s t hst
  obtain ⟨hrst, hs⟩ | ⟨hrst, u, hu, hs⟩ := step_cases s <;> cases hst.symm.trans hs
  · simp [hrst, State.Safe]
  obtain ⟨hf, hd⟩ | ⟨hf, hf', hm, hv, i, cond, idx, hdec, hviol, hd⟩ := State.requestPhase_faulted hu
  · cases hsf : s.faulted <;> simp [State.Safe, hf, hd, hsf, hrst]
  · have hbreaks : Request.meetsContract ⟨s.port.op, s.port.a, s.port.b, s.port.c⟩ = false :=
      meetsContract_of_violation hdec hviol
    refine ⟨fun _ _ => ⟨hm, hrst, hv, i, cond, idx, hdec, hviol, by rw [State.finishEdge_diag, hd]⟩, ?_⟩
    simp [State.Safe, hf, hf', hm, hv, hbreaks]

/-- Settles O50: the requests answered and in flight grow by the accepted one alone. -/
theorem requestHandshakeAcceptsAtTheTail : Obligations.RequestHandshakeAcceptsAtTheTail := by
  intro s
  refine ⟨by rw [State.outputs_reqReady]; exact State.reqReady_iff, ?_⟩
  obtain ⟨hrst, hs⟩ | ⟨hrst, u, hu, hs⟩ := step_cases s
  · exact ⟨_, hs, by simp [hrst]⟩
  refine ⟨_, hs, fun _ => ?_⟩
  change (finishEdge s u).requests = s.requests ++ _
  rw [State.requests_finishEdge, State.outputs_reqReady]
  obtain ⟨hno, rfl⟩ | ⟨hv, hr, any, rfl⟩ := State.requestPhase_cases_accept hu
  · obtain hno | hno := hno <;> simp [hno]
  · rw [State.requests_accept, hv, hr]
    rfl

/-- Settles O52: an available head is what the wires carry, and an edge at which the host does not take it leaves it at
the head, its wait still 0. -/
theorem offeredResponseIsHeld : Obligations.OfferedResponseIsHeld := by
  intro s e rest hrst hq hw code offers
  have offered : ∀ (v : State) (rest : List Entry), v.port.rst = false → v.queue = e :: rest → offers v := by
    intro v rest hv hvq
    have hcode : statusCode e.rsp.status = code e.rsp.status := by cases e.rsp.status <;> rfl
    simp [offers, State.outputs_of_head hv hvq hw, hcode]
  refine ⟨offered s rest hrst hq, fun hy => ?_⟩
  obtain ⟨hrst', -⟩ | ⟨-, u, hu, hs⟩ := step_cases s
  · simp [hrst] at hrst'
  obtain ⟨-, -, -, -, hy', -⟩ | ⟨-, hf⟩ := finishEdge_cases s u hrst
  · simp [hy] at hy'
  obtain ⟨hans, added, hqueue⟩ := requestPhase_answered_queue hu
  have hheld : u.tick.queue = e :: (rest ++ added).map fun x => { x with wait := x.wait - 1 } := by
    obtain ⟨req, rsp, wait⟩ := e
    cases hw
    simp [hqueue, hq]
  rw [hf] at hs
  exact ⟨_, hs, by rw [hheld]; rfl, hans, fun ht => offered _ _ ht hheld⟩

/-- Settles O57: no part of an edge changes the build, and `tick` alone moves the wires. -/
theorem buildParametersNeverChange : Obligations.BuildParametersNeverChange := by
  intro s t hst
  obtain ⟨-, hs⟩ | ⟨-, u, hu, hs⟩ := step_cases s <;> cases hst.symm.trans hs
  · simp [nextPort_eq_headD]
  · obtain ⟨hb, hscript⟩ := State.requestPhase_build_script hu
    simp [hb, hscript, nextPort_eq_headD]

/-- Settles O60: Q is empty, so the unit has room in every build and the clauses on entries are about none. -/
theorem resetMeetsTheInvariant : Obligations.ResetMeetsTheInvariant :=
  ⟨rfl, rfl, rfl, rfl, rfl, .reset⟩

end Sys2Proof.Proofs
end

section
/-! What one operation reads, writes and leaves unchanged (10_state R20, R23, R25, R27; 30_encoding R58, R59). -/

namespace Sys2Proof.Machine

/-! ## Operands -/

/-- An integer operand is the low W bits of its port (R27, R58). -/
theorem intOperand_congr {w : Width} {x y : Word64}
    (h : if w == .w64 then x = y else x.setWidth 32 = y.setWidth 32) : intOperand w x = intOperand w y := by
  cases w with
  | w32 => exact h
  | w64 => exact congrArg (intOperand .w64) h

/-- A binary32 operand is the low 32 bits of its port (R16, R27). -/
theorem floatOperand_congr {t : FloatType} {x y : Word64}
    (h : if t == .binary64 then x = y else x.setWidth 32 = y.setWidth 32) : floatOperand t x = floatOperand t y := by
  cases t with
  | binary32 => exact h
  | binary64 => exact congrArg (floatOperand .binary64) h

/-! ## Results -/

theorem toNat_setWidth_lt (v : BitVec 32) : (v.setWidth 64).toNat < 2 ^ 32 :=
  BitVec.toNat_setWidth_of_le (b := v) (by decide : 32 ≤ 64) ▸ v.isLt

theorem toNat_zext64_lt {w : Width} (v : BitVec w.bits) (h : (w == .w32) = true) : (zext64 v).toNat < 2 ^ 32 := by
  cases eq_of_beq h
  exact toNat_setWidth_lt v

theorem toNat_putFloat_lt {t : FloatType} (v : BitVec (floatBits t)) (h : (t == .binary32) = true) :
    (putFloat t v).toNat < 2 ^ 32 := by
  cases eq_of_beq h
  exact toNat_setWidth_lt v

/-- A result that writes the first `ports` result ports, within 32 bits if `narrow`; a violation writes none (R25, R59,
R135). `unwrittenPortsAreZero` is that every operation's result is such. -/
def Result.Fits (ports : Nat) (narrow : Bool) (r : Result) : Prop :=
  ∀ r0 r1 r2, r = .ok r0 r1 r2 →
    (ports ≤ 1 → r1 = 0) ∧ (ports ≤ 2 → r2 = 0) ∧
    (narrow = true → r0.toNat < 2 ^ 32 ∧ r1.toNat < 2 ^ 32 ∧ r2.toNat < 2 ^ 32)

namespace Result.Fits

variable {narrow : Bool} {v0 v1 v2 : Word64}

theorem one (h0 : narrow = true → v0.toNat < 2 ^ 32) : Fits 1 narrow (.ok v0 0 0) := by
  rintro _ _ _ ⟨⟩
  exact ⟨fun _ => rfl, fun _ => rfl, fun h => ⟨h0 h, by decide, by decide⟩⟩

theorem two (h0 : narrow = true → v0.toNat < 2 ^ 32) (h1 : narrow = true → v1.toNat < 2 ^ 32) :
    Fits 2 narrow (.ok v0 v1 0) := by
  rintro _ _ _ ⟨⟩
  exact ⟨by simp, fun _ => rfl, fun h => ⟨h0 h, h1 h, by decide⟩⟩

theorem three (h0 : narrow = true → v0.toNat < 2 ^ 32) (h1 : narrow = true → v1.toNat < 2 ^ 32)
    (h2 : narrow = true → v2.toNat < 2 ^ 32) : Fits 3 narrow (.ok v0 v1 v2) := by
  rintro _ _ _ ⟨⟩
  exact ⟨by simp, by simp, fun h => ⟨h0 h, h1 h, h2 h⟩⟩

/-- A checked precondition only adds a violation. -/
theorem guarded {ports : Nat} {r : Result} {cond : Cond} {idx : OperandIndex} (b : Bool) (h : Fits ports narrow r) :
    Fits ports narrow (if b then .violation cond idx else r) := by
  cases b with
  | false => exact h
  | true => rintro _ _ _ ⟨⟩

end Result.Fits

/-- The classes with no precondition raise no violation (R83, R110, R150). -/
theorem operate_ok_of_total {f : Fields} (h : f.cls ∈ [OpClass.mconst, .bgath, .mdec, .dqnt, .fdec])
    (a b c : Word64) : ∃ r0 r1 r2, operate f a b c = .ok r0 r1 r2 := by
  obtain ⟨cls, w, d, ax, t⟩ := f
  cases cls <;> cases d <;> simp at h <;> exact ⟨_, _, _, rfl⟩

/-! ## The DIAG word -/

/-- The DIAG word is its fields side by side (R23, R152). -/
theorem diagWord_eq_append (cond : Cond) (idx : OperandIndex) (op : OpWord) :
    diagWord cond idx op = (op ++ (0 : BitVec 10) ++ operandCode idx ++ condCode cond).setWidth 64 := by
  have reorder (x y z : Word64) : x ||| y ||| z = z ||| y ||| x := by
    rw [BitVec.or_comm, BitVec.or_comm x, BitVec.or_assoc]
  rw [BitVec.setWidth_append_append_append_eq_shiftLeft_setWidth_or]
  simp [diagWord, zext64, reorder]

theorem extractLsb'_diagWord (cond : Cond) (idx : OperandIndex) (op : OpWord) {lo len : Nat} (h : lo + len ≤ 64) :
    (diagWord cond idx op).extractLsb' lo len =
      (op ++ (0 : BitVec 10) ++ operandCode idx ++ condCode cond).extractLsb' lo len := by
  rw [diagWord_eq_append, BitVec.extractLsb'_setWidth_of_le h]

end Sys2Proof.Machine

namespace Sys2Proof.Proofs

open Sys2Proof.Machine Sys2Proof.Claims

/-- Settles O34: every port an operation reads, it reads through `intOperand` or `floatOperand`. -/
theorem unreadOperandBitsAreIgnored : Obligations.UnreadOperandBitsAreIgnored := by
  rintro ⟨cls, w, d, ax, t⟩ a b c a' b' c' - wide same ha hb hc
  cases cls
  case mconst => rfl
  case bscat | bgath | dqnt =>
    have hA := intOperand_congr (ha Nat.one_pos)
    simp only [operate, bscat, bgath, dqnt, hA]
  case qnt =>
    have hA := floatOperand_congr (ha Nat.one_pos)
    simp only [operate, qnt, hA]
  case mdec | fdec =>
    have hA := intOperand_congr (ha Nat.one_pos)
    cases d <;> simp only [operate, mdec2, mdec3, fdec2, fdec3, hA]
  case menc =>
    cases d
    case d2 =>
      have hA := intOperand_congr (ha (show 0 < 2 by decide))
      have hB := intOperand_congr (hb (show 1 < 2 by decide))
      simp only [operate, menc2, hA, hB]
    case d3 =>
      have hA := intOperand_congr (ha (show 0 < 3 by decide))
      have hB := intOperand_congr (hb (show 1 < 3 by decide))
      have hC := intOperand_congr (hc (show 2 < 3 by decide))
      simp only [operate, menc3, hA, hB, hC]
  case fenc =>
    cases d
    case d2 =>
      have hA := floatOperand_congr (ha (show 0 < 2 by decide))
      have hB := floatOperand_congr (hb (show 1 < 2 by decide))
      simp only [operate, fenc2, hA, hB]
    case d3 =>
      have hA := floatOperand_congr (ha (show 0 < 3 by decide))
      have hB := floatOperand_congr (hb (show 1 < 3 by decide))
      have hC := floatOperand_congr (hc (show 2 < 3 by decide))
      simp only [operate, fenc3, hA, hB, hC]

open Result.Fits in
/-- Settles O35: behind its preconditions, each class fills its ports with zero-extended W-bit or float values. -/
theorem unwrittenPortsAreZero : Obligations.UnwrittenPortsAreZero := by
  rintro ⟨cls, w, d, ax, t⟩ a b c r0 r1 r2 - h narrow
  refine (?_ : Result.Fits (portsWritten ⟨cls, w, d, ax, t⟩) narrow (operate ⟨cls, w, d, ax, t⟩ a b c)) r0 r1 r2 h
  clear h
  cases cls
  case mconst =>
    have hmaxc : (w == .w32) = true → (BitVec.ofNat 64 (maxc w d)).toNat < 2 ^ 32 := by
      intro hw
      cases eq_of_beq hw
      cases d <;> decide
    exact three (toNat_zext64_lt _) hmaxc (toNat_zext64_lt _)
  case bscat => exact guarded _ (one (toNat_zext64_lt _))
  case bgath => exact one (toNat_zext64_lt _)
  case qnt => exact guarded _ (one (toNat_zext64_lt _))
  case dqnt => exact one (toNat_putFloat_lt _)
  case menc =>
    cases d
    case d2 => exact guarded _ (guarded _ (one (toNat_zext64_lt _)))
    case d3 => exact guarded _ (guarded _ (guarded _ (one (toNat_zext64_lt _))))
  case fenc =>
    cases d
    case d2 => exact guarded _ (guarded _ (one (toNat_zext64_lt _)))
    case d3 => exact guarded _ (guarded _ (guarded _ (one (toNat_zext64_lt _))))
  case mdec =>
    cases d
    case d2 => exact two (toNat_zext64_lt _) (toNat_zext64_lt _)
    case d3 => exact three (toNat_zext64_lt _) (toNat_zext64_lt _) (toNat_zext64_lt _)
  case fdec =>
    cases d
    case d2 => exact two (toNat_putFloat_lt _) (toNat_putFloat_lt _)
    case d3 => exact three (toNat_putFloat_lt _) (toNat_putFloat_lt _) (toNat_putFloat_lt _)

open BitVec in
/-- Settles O36: each field is a part of the word that `diagWord` lays side by side, and nothing lies above OPWORD. -/
theorem diagFieldsReadBack : Obligations.DiagFieldsReadBack := by
  intro cond idx op
  rw [diagCond, diagOperand, diagOpWord]
  refine ⟨?_, ?_, ?_, ?_, ?_⟩ <;> rw [extractLsb'_diagWord cond idx op (by decide)]
  · rw [extractLsb'_append_eq_right]
    cases cond <;> rfl
  · rw [extractLsb'_append_eq_of_le (by decide), extractLsb'_append_eq_right]
    cases idx <;> rfl
  · rw [extractLsb'_append_eq_of_le (by decide), extractLsb'_append_eq_of_le (by decide)]
    exact extractLsb'_append_eq_left
  · rw [extractLsb'_append_eq_of_le (by decide), extractLsb'_append_eq_of_le (by decide)]
    exact extractLsb'_append_eq_right
  · exact eq_of_getLsbD_eq fun k _ => by simp

/-- Settles O42: an operation that is accepted only enqueues its request, or records its violation as well. -/
theorem operationFrame : Obligations.OperationFrame := by
  intro i s t h
  obtain ⟨-, he⟩ | ⟨-, he⟩ := exec_cases i s <;> cases h.symm.trans he
  · obtain ⟨rsp, -, ha⟩ | ⟨hm, cond, idx, hv, ha⟩ := State.answer_cases s (s.request (encode i)) i.fields.w
      (operate i.fields s.port.a s.port.b s.port.c) <;> rw [ha]
    · exact ⟨rfl, rfl, rfl, rfl, rfl, rfl, .inr ⟨_, rfl, rfl⟩, .inl ⟨rfl, rfl⟩, fun _ => ⟨rfl, rfl⟩⟩
    · refine ⟨rfl, rfl, rfl, rfl, rfl, rfl, .inr ⟨_, rfl, rfl⟩, .inr ⟨hm, rfl, cond, idx, hv, rfl⟩, fun hc => ?_⟩
      obtain ⟨r0, r1, r2, hok⟩ := operate_ok_of_total hc s.port.a s.port.b s.port.c
      cases hok.symm.trans hv
  · exact ⟨rfl, rfl, rfl, rfl, rfl, rfl, .inl rfl, .inl ⟨rfl, rfl⟩, fun _ => ⟨rfl, rfl⟩⟩

end Sys2Proof.Proofs
end

section
/-! A response is a function of its request and the contract mode, but for the free draw of an UNCHECKED violation
(20 R46; 60_exceptions R155, R158; 70_reset R181, R182). -/

namespace Sys2Proof

/-- The word of a row decodes to that row (R61, R67). -/
theorem decode_encode (i : Instr) : decode (encode i) = .ok i := by cases i <;> rfl

namespace Machine

/-- The free draw reaches the response of an UNCHECKED violation alone (R155). -/
theorem respond_draw_cases (mode : ContractMode) (q : Request) :
    (∃ rsp, ∀ any, respond mode any q = rsp) ∨
    (mode = .unchecked ∧ q.meetsContract = false ∧ ∃ w, ∀ any, respond mode any q = anyResponse w any) := by
  cases hd : decode q.op with
  | error why => exact .inl ⟨illegalResponse, fun any => by simp [respond, hd]⟩
  | ok i =>
    cases hr : operate i.fields q.a q.b q.c with
    | ok r0 r1 r2 => exact .inl ⟨⟨.ok, r0, r1, r2⟩, fun any => by simp [respond, hd, hr]⟩
    | violation cond idx =>
      cases mode with
      | checked => exact .inl ⟨faultResponse (diagWord cond idx q.op), fun any => by simp [respond, hd, hr]⟩
      | unchecked =>
        exact .inr ⟨rfl, meetsContract_of_violation hd hr, i.fields.w, fun any => by simp [respond, hd, hr]⟩

/-- An operation on a unit with `req_ready` = 1 is accepted with the response of `respond` (R158, R181). -/
theorem exec_eq_accept {s : State} (h : s.reqReady = true) (i : Instr) :
    exec i s = .next (s.accept (s.request (encode i))
      (respond s.build.contractMode (Config.anyResult s.accepted) (s.request (encode i)))) := by
  rw [exec_eq_perform, State.perform_ready h]
  exact congrArg _ (State.answer_eq_accept (q := s.request (encode i)) (decode_encode i))

end Machine
end Sys2Proof

namespace Sys2Proof.Proofs

open Sys2Proof.Machine Sys2Proof.Claims

/-- Settles O43: both units accept the one request with `respond`, and their draws can differ in the R0 of an UNCHECKED
violation alone. -/
theorem responseDependsOnItsRequestAlone : Obligations.ResponseDependsOnItsRequestAlone := by
  intro i s s' hs hs' hmode ha hb hc
  have hreq : s'.request (encode i) = s.request (encode i) := by simp [State.request, ha, hb, hc]
  refine ⟨_, _, _, _, exec_eq_accept (State.reqReady_iff.mpr hs) i, exec_eq_accept (State.reqReady_iff.mpr hs') i,
    State.accept_queue .., State.accept_queue .., ?_⟩
  rw [hreq, ← hmode]
  obtain ⟨rsp, hrsp⟩ | ⟨hm, hbreaks, w, hrsp⟩ := respond_draw_cases s.build.contractMode (s.request (encode i))
  · rw [hrsp, hrsp]
    exact ⟨rfl, rfl, rfl, fun _ => rfl⟩
  · rw [hrsp, hrsp]
    refine ⟨rfl, rfl, rfl, ?_⟩
    rintro (hchecked | hmeets)
    · cases hm.symm.trans hchecked
    · cases hbreaks.symm.trans hmeets

end Sys2Proof.Proofs
end

section
/-! The words of the opcode map, their mnemonics, and the answer to every other word (30_encoding R50 to R67;
60_exceptions R157, R158). -/

namespace Sys2Proof

/-- Decoder and encoder are inverse to each other (R57, R61, R67). -/
theorem decode_eq_ok_iff {op : OpWord} {i : Instr} : decode op = .ok i ↔ op = encode i where
  mp h := (encode_of_decode h).symm
  mpr h := h ▸ decode_encode i

/-- Every row is listed (R61). -/
theorem Instr.mem_all (i : Instr) : i ∈ Instr.all := by cases i <;> decide

/-- The words of R61 are those of its rows, in the table's order. -/
theorem tableWords_eq_map_encode : Claims.tableWords = Instr.all.map fun i => (encode i).toNat := rfl

/-- A word of R61 is the word of a row. -/
theorem mem_tableWords_iff {op : OpWord} : op.toNat ∈ Claims.tableWords ↔ ∃ i, op = encode i := by
  simp [tableWords_eq_map_encode, Instr.mem_all, BitVec.toNat_inj, eq_comm]

/-- The word of a row is legal (R57, R61). -/
theorem legal_encode (i : Instr) : legal (encode i) = true := by cases i <;> rfl

/-- A legal word has no bit above field T (R56). -/
theorem toNat_lt_of_legal {op : OpWord} (h : legal op = true) : op.toNat < 512 := by
  simp only [legal, Bool.and_eq_true, beq_iff_eq, BitVec.extractLsb'_toNat, Nat.shiftRight_eq_div_pow] at h
  obtain ⟨⟨⟨hres, -⟩, -⟩, -⟩ := h
  omega

/-- R57 against R61 on the words whose RES is 0. -/
theorem mem_tableWords_of_legal_ofNat :
    ∀ n < 512, legal (BitVec.ofNat 32 n) = true → n ∈ Claims.tableWords := by decide +kernel

/-- R57 admits the words of R61 alone. -/
theorem legal_iff_mem_tableWords {op : OpWord} : legal op = true ↔ op.toNat ∈ Claims.tableWords where
  mp h := mem_tableWords_of_legal_ofNat op.toNat (toNat_lt_of_legal h) (by simpa using h)
  mpr h := by
    obtain ⟨i, rfl⟩ := mem_tableWords_iff.mp h
    exact legal_encode i

namespace Machine

/-- Looking up the mnemonic of a row finds that row (R64). -/
theorem instrNamed_mnemonic (i : Instr) : instrNamed (mnemonic i) = some i := by cases i <;> rfl

variable {s u : State}

/-- An entry that the request channel adds at the tail of Q is the tail of Q after the edge (R24, R179). -/
theorem finishEdge_queue_snoc {e : Entry} (hrst : s.port.rst = false) (hu : u.queue = s.queue ++ [e]) :
    ∃ pre, (finishEdge s u).queue = pre ++ [Claims.nearer e] := by
  obtain ⟨h, rest, hq, -, -, hf⟩ | ⟨-, hf⟩ := finishEdge_cases s u hrst
  · exact ⟨rest.map Claims.nearer, by simp [hf, hu, hq, Claims.nearer]⟩
  · exact ⟨s.queue.map Claims.nearer, by simp [hf, hu, Claims.nearer]⟩

/-- An edge that accepts an illegal word answers it ILLEGAL, before the response channel (R157, R158). -/
theorem step_of_illegal {why : IllegalWord} (hs : s.reqReady = true) (hv : s.port.reqValid = true)
    (hd : decode s.port.op = .error why) :
    step s = .next (finishEdge s (s.enqueue (s.request s.port.op) illegalResponse)) := by
  have hu : s.requestPhase = .next (s.enqueue (s.request s.port.op) illegalResponse) := by
    simp [State.requestPhase, State.runRequest, hv, hd, State.answerIllegal_ready hs]
  obtain ⟨hrst, -⟩ | ⟨-, u, hu', h⟩ := step_cases s
  · cases hrst.symm.trans (State.reqReady_iff.mp hs).1
  · cases hu.symm.trans hu'
    exact h

end Machine
end Sys2Proof

namespace Sys2Proof.Proofs

open Sys2Proof.Machine Sys2Proof.Claims

/-- Settles O1: the encoder gives back the word a row was decoded from, and the decoder the row of each word. -/
theorem decodeInvertsEncode : Obligations.DecodeInvertsEncode := fun _ _ => decode_eq_ok_iff

/-- Settles O2: the table lists the words of the rows, which are the words that decode; R57 admits them alone. -/
theorem legalWordsAreTheTable : Obligations.LegalWordsAreTheTable := by
  refine ⟨rfl, by decide, fun op => ⟨legal_iff_mem_tableWords, ?_⟩⟩
  simp only [decode_eq_ok_iff, mem_tableWords_iff]

/-- Settles O3: each word is the encoder's word of its row. -/
theorem sampleWordsDecode : Obligations.SampleWordsDecode := by
  refine ⟨?_, ?_, ?_, ?_, ?_, ?_, ?_, ?_, ?_⟩ <;> exact decode_eq_ok_iff.mpr rfl

/-- Settles O4: a row is what its mnemonic finds, so rows with one mnemonic are one row. -/
theorem mnemonicsAreOneToOne : Obligations.MnemonicsAreOneToOne := by
  refine ⟨instrNamed_mnemonic, fun i j h => Option.some.inj ?_⟩
  rw [← instrNamed_mnemonic i, h, instrNamed_mnemonic]

/-- Settles O40: the request channel adds the ILLEGAL entry at the tail of Q, and the end of the edge can take the head
alone. -/
theorem illegalWordIsAnsweredIllegal : Obligations.IllegalWordIsAnsweredIllegal := by
  intro s why hs hv hd accepted
  have hstep : step s = .next (finishEdge s accepted) := step_of_illegal (State.reqReady_iff.mpr hs) hv hd
  obtain ⟨hrst, hfaulted, -⟩ := hs
  obtain ⟨pre, hqueue⟩ := finishEdge_queue_snoc (u := accepted) hrst rfl
  refine ⟨_, pre, _, hstep, ?_, hqueue, rfl, rfl, State.finishEdge_faulted .., ?_, State.finishEdge_diag ..⟩
  · obtain ⟨e, rest, hq, hw, hy, hf⟩ | ⟨hno, hf⟩ := finishEdge_cases s accepted hrst
    · simp [hq, hw, hy, hf]
    · rw [hf]
      split
      next => rfl
      next e rest hq => rw [if_neg (hno e rest hq)]
  · exact (State.finishEdge_faulted ..).trans hfaulted

end Sys2Proof.Proofs
end

section
/-! The axis masks bit by bit, and the constants that MCONST answers (40_constants R70 to R76). -/

namespace Sys2Proof.Machine

open Sys2Proof.Claims

/-! ## The bits of a mask -/

/-- The numbers below D*n that leave i modulo D are D*k + i for k < n. -/
theorem mod_eq_and_lt_mul_iff {D i : Nat} (hi : i < D) (n p : Nat) :
    p % D = i ∧ p < D * n ↔ ∃ k < n, D * k + i = p where
  mp h := by
    obtain ⟨rfl, hp⟩ := h
    exact ⟨p / D, Nat.div_lt_of_lt_mul hp, Nat.div_add_mod ..⟩
  mpr h := by
    obtain ⟨k, hk, rfl⟩ := h
    have hnext : D * (k + 1) ≤ D * n := Nat.mul_le_mul_left D hk
    rw [Nat.mul_succ] at hnext
    exact ⟨by rw [Nat.mul_add_mod, Nat.mod_eq_of_lt hi], by omega⟩

/-- A sum of distinct powers of two has the bits of its exponents. -/
theorem testBit_sum_two_pow {D : Nat} (hD : 0 < D) (i n p : Nat) :
    ((List.range n).map fun k => 2 ^ (D * k + i)).sum.testBit p = true ↔ ∃ k < n, D * k + i = p := by
  induction n generalizing p with
  | zero => simp
  | succ n ih =>
    have hlt : ((List.range n).map fun k => 2 ^ (D * k + i)).sum < 2 ^ (D * n + i) := by
      refine Nat.lt_pow_two_of_testBit _ fun q hq => Bool.eq_false_iff.mpr fun hbit => ?_
      obtain ⟨k, hk, rfl⟩ := (ih q).mp hbit
      have := Nat.mul_lt_mul_of_pos_left hk hD
      omega
    have hjoin := Nat.two_pow_add_eq_or_of_lt hlt 1
    rw [Nat.mul_one, Nat.add_comm] at hjoin
    rw [Nat.exists_lt_succ_right, List.range_succ, List.map_append, List.sum_append, List.map_singleton,
      List.sum_singleton, hjoin, Nat.testBit_or, Nat.testBit_two_pow, Bool.or_eq_true, ih, decide_eq_true_eq, or_comm]

/-- Bit p of `mask(W, D, i)` (R70). The used bits end within the code, so no term of the sum is cut off. -/
theorem getLsbD_mask_iff (w : Width) {d : Dim} {i : Nat} (hi : i < d.axes) (p : Nat) :
    (mask w d i).getLsbD p = true ↔ p % d.axes = i ∧ p < d.axes * axisBits w d := by
  have hused : d.axes * axisBits w d ≤ w.bits := Nat.mul_div_le ..
  rw [mask, BitVec.getLsbD_ofNat, Bool.and_eq_true, decide_eq_true_eq, testBit_sum_two_pow (by omega),
    ← mod_eq_and_lt_mul_iff hi]
  omega

/-- The set bits of a mask are its positions (R80). -/
theorem mem_positions {n : Nat} {m : BitVec n} {p : Nat} : p ∈ positions m ↔ m.getLsbD p = true := by
  simpa [positions] using BitVec.lt_of_getLsbD

/-- The set bits of `mask(W, D, i)` are D*k + i for k < n(W, D), in this order (R70, R80). -/
theorem positions_mask (w : Width) {d : Dim} {i : Nat} (hi : i < d.axes) :
    positions (mask w d i) = (List.range (axisBits w d)).map fun k => d.axes * k + i := by
  have hsteps : ((List.range (axisBits w d)).map fun k => d.axes * k + i).SortedLT := by
    refine ((List.sortedLT_range _).pairwise.map _ fun j k hjk => ?_).sortedLT
    have := Nat.mul_lt_mul_of_pos_left hjk (show 0 < d.axes by omega)
    omega
  refine ((List.sortedLT_range _).pairwise.filter _).sortedLT.eq_of_mem_iff hsteps fun p => ?_
  rw [← positions, mem_positions, getLsbD_mask_iff w hi, mod_eq_and_lt_mul_iff hi]
  simp only [List.mem_map, List.mem_range]

/-- An axis has n(W, D) bits (R75). -/
theorem popcount_mask (w : Width) {d : Dim} {i : Nat} (hi : i < d.axes) :
    popcount (mask w d i) = axisBits w d := by
  simp [popcount, positions_mask w hi]

/-- Two axes share no bit (R74). -/
theorem mask_and_mask (w : Width) {d : Dim} {i j : Nat} (hi : i < d.axes) (hj : j < d.axes) (hij : i ≠ j) :
    mask w d i &&& mask w d j = 0 := by
  refine BitVec.eq_of_getLsbD_eq fun p _ => ?_
  rw [BitVec.getLsbD_and, BitVec.ofNat_eq_ofNat, BitVec.getLsbD_zero, Bool.eq_false_iff, ne_eq, Bool.and_eq_true,
    getLsbD_mask_iff w hi, getLsbD_mask_iff w hj]
  rintro ⟨⟨hpi, -⟩, hpj, -⟩
  exact hij (hpi.symm.trans hpj)

/-- `used(W, D)` joins the masks of all axes (R72, R74). -/
theorem foldl_mask_eq_used (w : Width) (d : Dim) :
    (List.range d.axes).foldl (fun u i => u ||| mask w d i) 0 = used w d := by
  cases d <;> simp [Dim.axes, List.range_succ, used]

/-- The mask of axis i is the mask of axis 0, i bits higher (R74). -/
theorem mask_eq_shiftLeft (w : Width) {d : Dim} {i : Nat} (hi : i < d.axes) : mask w d i = mask w d 0 <<< i := by
  have hused : d.axes * axisBits w d ≤ w.bits := Nat.mul_div_le ..
  refine BitVec.eq_of_getLsbD_eq fun p hp => ?_
  rw [BitVec.getLsbD_shiftLeft, Bool.eq_iff_iff, Bool.and_eq_true, getLsbD_mask_iff w hi, getLsbD_mask_iff w (by omega)]
  simp only [hp, decide_true, Bool.true_and, Bool.not_eq_true', decide_eq_false_iff_not]
  cases d <;> simp only [Dim.axes] at hi hused ⊢ <;> omega

/-- A value fits n bits exactly when no bit from n on is set; 2^n - 1 is the largest (R71, R75). -/
theorem getLsbD_eq_false_iff_le_maxc {w : Width} {d : Dim} {s : BitVec w.bits} :
    (∀ k, axisBits w d ≤ k → s.getLsbD k = false) ↔ s.toNat ≤ maxc w d where
  mp h := Nat.le_pred_of_lt (Nat.lt_pow_two_of_testBit _ h)
  mpr h _ := getLsbD_of_le_maxc h

/-! ## MCONST -/

/-- A ready unit accepts an operation that raises no violation and answers its results (R158, R176). -/
theorem exec_eq_accepts_of_ok {s : State} (hs : Ready s) {i : Instr} {r0 r1 r2 : Word64}
    (h : operate i.fields s.port.a s.port.b s.port.c = .ok r0 r1 r2) :
    exec i s = .next (accepts s (encode i) ⟨.ok, r0, r1, r2⟩) := by
  rw [exec_eq_perform, State.perform_ready (State.reqReady_iff.mpr hs), h]
  rfl

/-- MCONST reads no operand: its row alone fixes its results (R76). -/
theorem constCase_of_mconst {s : State} (hs : Ready s) {i : Instr} {m c u : Word64}
    (hcls : i.fields.cls = .mconst)
    (h : mconst i.fields.w i.fields.d i.fields.ax.toNat = .ok m c u) : constCase s i (encode i) m c u := by
  refine exec_eq_accepts_of_ok hs ?_
  rw [operate, hcls]
  exact h

end Sys2Proof.Machine

namespace Sys2Proof.Proofs

open Sys2Proof.Machine Sys2Proof.Claims

/-- Settles O5: the bits of a sum of distinct powers of two. -/
theorem maskBitsByPosition : Obligations.MaskBitsByPosition :=
  ⟨by decide, fun w _ _ p hi => getLsbD_mask_iff w hi p⟩

/-- Settles O7: bit by bit, from the positions of the set bits of a mask. -/
theorem masksPartitionAndAxisWidth : Obligations.MasksPartitionAndAxisWidth := by
  refine fun w d => ⟨fun _ _ => mask_and_mask w, foldl_mask_eq_used w d, fun i hi => ?_⟩
  rw [popcount_mask w hi]
  exact ⟨mask_eq_shiftLeft w hi, rfl, rfl, fun _ => getLsbD_eq_false_iff_le_maxc⟩

/-- Settles O6: each entry of the tables is a closed value. -/
theorem maskTableValues : Obligations.MaskTableValues := by
  unfold Obligations.MaskTableValues
  decide +kernel

/-- Settles O8: each row is accepted with the constants of its width, dimension and axis. -/
theorem mconstReturnsAxisConstants : Obligations.MconstReturnsAxisConstants := by
  intro s hs
  refine ⟨?_, ?_, ?_, ?_, ?_, ?_, ?_, ?_, ?_, ?_⟩ <;> exact constCase_of_mconst hs rfl (by decide +kernel)

end Sys2Proof.Proofs
end

section
/-! Scatter and gather bit by bit: bit j of the one side is the set bit of rank j of the mask on the other
(41_bit_primitives R80 to R82). -/

namespace Sys2Proof.Machine

open Sys2Proof.Claims

variable {n : Nat}

/-! ## The rank of a position in a mask -/

theorem rank_le (m : BitVec n) (p : Nat) : rank m p ≤ p := by
  simpa [rank] using List.length_filter_le (fun k => m.getLsbD k) (List.range p)

/-- A set bit at `p` raises the rank of the positions above it by one. -/
theorem rank_succ (m : BitVec n) (p : Nat) : rank m (p + 1) = rank m p + (m.getLsbD p).toNat := by
  rw [rank, List.range_succ, List.filter_append, List.length_append, rank]
  cases h : m.getLsbD p <;> simp [h]

/-- An index of a list with one more entry at its end is an index of the list or the new last one. -/
theorem getElem?_concat_eq_some_iff {α : Type} {l : List α} {a b : α} {j : Nat} :
    (l ++ [a])[j]? = some b ↔ l[j]? = some b ∨ l.length = j ∧ a = b := by
  obtain h | rfl | h := Nat.lt_trichotomy j l.length
  · simp [List.getElem?_append_left h, h.ne']
  · simp
  · have hlen : (l ++ [a]).length ≤ j := by simpa using h
    simp [List.getElem?_eq_none hlen, List.getElem?_eq_none h.le, h.ne]

/-- Of the positions below `k`, in order, `p` stands at index `j` exactly when it is set and has rank `j`. -/
theorem getElem?_filter_range_iff (m : BitVec n) (k j p : Nat) :
    ((List.range k).filter fun q => m.getLsbD q)[j]? = some p ↔ p < k ∧ m.getLsbD p = true ∧ rank m p = j := by
  induction k with
  | zero => simp
  | succ k ih =>
    rw [List.range_succ, List.filter_append, Nat.lt_succ_iff_lt_or_eq, or_and_right, ← ih]
    cases hk : m.getLsbD k with
    | false =>
      have hne : ¬ (p = k ∧ m.getLsbD p = true ∧ rank m p = j) := by
        rintro ⟨rfl, hp, -⟩
        cases hk.symm.trans hp
      simp [hk, hne]
    | true =>
      rw [List.filter_singleton, hk, cond_true, getElem?_concat_eq_some_iff, ← rank]
      refine or_congr_right ⟨?_, ?_⟩
      · rintro ⟨rfl, rfl⟩
        exact ⟨rfl, hk, rfl⟩
      · rintro ⟨rfl, -, rfl⟩
        exact ⟨rfl, rfl⟩

/-- The position at index `j` of a mask is its set bit of rank `j` (R80). -/
theorem getElem?_positions_iff {m : BitVec n} {j p : Nat} :
    (positions m)[j]? = some p ↔ m.getLsbD p = true ∧ rank m p = j := by
  rw [positions, getElem?_filter_range_iff]
  exact ⟨And.right, fun h => ⟨BitVec.lt_of_getLsbD h.1, h⟩⟩

/-- The set bits of a mask have different ranks. -/
theorem eq_of_rank_eq {m : BitVec n} {p q : Nat} (hp : m.getLsbD p = true) (hq : m.getLsbD q = true)
    (h : rank m p = rank m q) : p = q :=
  Option.some.inj ((getElem?_positions_iff.mpr ⟨hp, h⟩).symm.trans (getElem?_positions_iff.mpr ⟨hq, rfl⟩))

theorem rank_lt_popcount {m : BitVec n} {p : Nat} (hp : m.getLsbD p = true) : rank m p < popcount m :=
  (List.getElem?_eq_some_iff.mp (getElem?_positions_iff.mpr ⟨hp, rfl⟩)).1

/-- Each index below popcount is the rank of a set bit. -/
theorem exists_rank_eq {m : BitVec n} {j : Nat} (hj : j < popcount m) : ∃ p, m.getLsbD p = true ∧ rank m p = j :=
  ⟨_, getElem?_positions_iff.mp (List.getElem?_eq_getElem hj)⟩

/-- Moving a mask up moves the ranks along. -/
theorem rank_shiftLeft (m : BitVec n) {i p : Nat} (h : i + p ≤ n) : rank (m <<< i) (i + p) = rank m p := by
  induction p with
  | zero =>
    have hnone : (List.range i).filter (fun k => (m <<< i).getLsbD k) = [] :=
      List.filter_eq_nil_iff.mpr fun k hk => by simp [List.mem_range.mp hk]
    exact congrArg List.length hnone
  | succ p ih =>
    rw [← Nat.add_assoc, rank_succ, rank_succ, ih (by omega), BitVec.getLsbD_shiftLeft]
    simp [show i + p < n by omega]

/-! ## Scatter and gather for any mask -/

/-- Bit `q` of a deposit comes from the source bit that falls to a listed position `q` (R80). -/
theorem getLsbD_depositFrom_iff {s : BitVec n} {j q : Nat} {ps : List Nat} :
    (depositFrom s j ps).getLsbD q = true ↔ q < n ∧ ∃ k, ps[k]? = some q ∧ s.getLsbD (j + k) = true := by
  induction ps generalizing j with
  | nil => simp [depositFrom]
  | cons p ps ih =>
    simp only [depositFrom, BitVec.getLsbD_or, getLsbD_bitAt, Bool.or_eq_true, ih]
    rw [← Nat.or_exists_add_one (p := fun k => (p :: ps)[k]? = some q ∧ s.getLsbD (j + k) = true), and_or_left]
    refine or_congr ?_ ?_
    · rw [List.getElem?_cons_zero, Option.some_inj, eq_comm (a := p), Nat.add_zero]
      simp only [Bool.and_eq_true, decide_eq_true_eq]
      tauto
    · simp only [List.getElem?_cons_succ, Nat.add_assoc, Nat.add_comm 1]

/-- Scatter by position (R80). -/
theorem getLsbD_scatter (s m : BitVec n) (p : Nat) :
    (scatter s m).getLsbD p = (m.getLsbD p && s.getLsbD (rank m p)) := by
  rw [Bool.eq_iff_iff, Bool.and_eq_true, scatter, getLsbD_depositFrom_iff]
  simp only [getElem?_positions_iff, Nat.zero_add]
  constructor
  · rintro ⟨-, k, ⟨hp, rfl⟩, hs⟩
    exact ⟨hp, hs⟩
  · rintro ⟨hp, hs⟩
    exact ⟨BitVec.lt_of_getLsbD hp, _, ⟨hp, rfl⟩, hs⟩

/-- Gather by position (R81). -/
theorem getLsbD_gather_iff {s m : BitVec n} {j : Nat} :
    (gather s m).getLsbD j = true ↔ ∃ p, m.getLsbD p = true ∧ rank m p = j ∧ s.getLsbD p = true := by
  have hlt : ∀ p, m.getLsbD p = true → rank m p < n := fun p hp => (rank_le m p).trans_lt (BitVec.lt_of_getLsbD hp)
  rw [gather, getLsbD_extractFrom]
  simp only [Nat.zero_le, decide_true, Bool.and_true, Bool.and_eq_true, decide_eq_true_eq, Option.any_eq_true,
    Nat.sub_zero, getElem?_positions_iff, and_assoc]
  constructor
  · rintro ⟨-, h⟩
    exact h
  · rintro ⟨p, hp, rfl, hs⟩
    exact ⟨hlt p hp, p, hp, rfl, hs⟩

/-- The source bit at a mask position goes to the result bit of its rank (R81). -/
theorem getLsbD_gather_rank (s : BitVec n) {m : BitVec n} {p : Nat} (hp : m.getLsbD p = true) :
    (gather s m).getLsbD (rank m p) = s.getLsbD p := by
  rw [Bool.eq_iff_iff, getLsbD_gather_iff]
  constructor
  · rintro ⟨q, hq, hrank, hs⟩
    exact eq_of_rank_eq hq hp hrank ▸ hs
  · exact fun hs => ⟨p, hp, rfl, hs⟩

/-- Gather leaves 0 above its popcount (R81). -/
theorem getLsbD_gather_of_popcount_le (s : BitVec n) {m : BitVec n} {j : Nat} (hj : popcount m ≤ j) :
    (gather s m).getLsbD j = false := by
  rw [Bool.eq_false_iff, ne_eq, getLsbD_gather_iff]
  rintro ⟨p, hp, rfl, -⟩
  exact absurd (rank_lt_popcount hp) (Nat.not_lt.mpr hj)

/-! ## The laws of R82 -/

theorem gather_scatter {s m : BitVec n} (hs : s.toNat < 2 ^ popcount m) : gather (scatter s m) m = s := by
  refine BitVec.eq_of_getLsbD_eq fun j _ => ?_
  obtain hj | hj := Nat.lt_or_ge j (popcount m)
  · obtain ⟨p, hp, rfl⟩ := exists_rank_eq hj
    rw [getLsbD_gather_rank _ hp, getLsbD_scatter, hp, Bool.true_and]
  · rw [getLsbD_gather_of_popcount_le _ hj]
    exact (Nat.testBit_lt_two_pow (hs.trans_le (Nat.pow_le_pow_right (by decide) hj))).symm

theorem scatter_gather (c m : BitVec n) : scatter (gather c m) m = c &&& m := by
  refine BitVec.eq_of_getLsbD_eq fun p _ => ?_
  rw [getLsbD_scatter, BitVec.getLsbD_and]
  cases hp : m.getLsbD p with
  | false => simp
  | true => rw [getLsbD_gather_rank c hp, Bool.and_comm]

theorem scatter_and_not (s m : BitVec n) : scatter s m &&& ~~~m = 0 := by
  refine BitVec.eq_of_getLsbD_eq fun p hp => ?_
  rw [BitVec.getLsbD_and, getLsbD_scatter]
  cases h : m.getLsbD p <;> simp [h]

theorem gather_and_mask (c m : BitVec n) : gather (c &&& m) m = gather c m := by
  refine BitVec.eq_of_getLsbD_eq fun j _ => ?_
  rw [Bool.eq_iff_iff, getLsbD_gather_iff, getLsbD_gather_iff]
  refine exists_congr fun p => and_congr_right fun hp => ?_
  rw [BitVec.getLsbD_and, hp, Bool.and_true]

/-- The set bits of a mask moved up by i are those of the mask, i higher, that still lie within the code. -/
theorem getLsbD_shiftLeft_iff {m : BitVec n} {i p : Nat} :
    (m <<< i).getLsbD p = true ↔ p < n ∧ ∃ q, p = i + q ∧ m.getLsbD q = true := by
  rw [BitVec.getLsbD_shiftLeft, Bool.and_eq_true, Bool.and_eq_true, decide_eq_true_eq, and_assoc]
  refine and_congr_right fun _ => ⟨?_, ?_⟩
  · rintro ⟨hle, hm⟩
    exact ⟨p - i, (Nat.add_sub_cancel' (by simpa using hle)).symm, hm⟩
  · rintro ⟨q, rfl, hq⟩
    simpa using hq

theorem scatter_shiftLeft (s m : BitVec n) (i : Nat) : scatter s (m <<< i) = scatter s m <<< i := by
  refine BitVec.eq_of_getLsbD_eq fun p hp => ?_
  rw [getLsbD_scatter, BitVec.getLsbD_shiftLeft, BitVec.getLsbD_shiftLeft, getLsbD_scatter]
  obtain hlow | ⟨q, rfl⟩ := (Nat.lt_or_ge p i).imp_right Nat.exists_eq_add_of_le
  · simp [hlow]
  · rw [rank_shiftLeft m hp.le]
    simp [hp]

theorem gather_shiftLeft (c m : BitVec n) (i : Nat) : gather c (m <<< i) = gather (c >>> i) m := by
  refine BitVec.eq_of_getLsbD_eq fun j _ => ?_
  rw [Bool.eq_iff_iff, getLsbD_gather_iff, getLsbD_gather_iff]
  constructor
  · rintro ⟨p, hp, rfl, hc⟩
    obtain ⟨hpn, q, rfl, hq⟩ := getLsbD_shiftLeft_iff.mp hp
    exact ⟨q, hq, (rank_shiftLeft m hpn.le).symm, by rwa [BitVec.getLsbD_ushiftRight]⟩
  · rintro ⟨q, hq, rfl, hc⟩
    rw [BitVec.getLsbD_ushiftRight] at hc
    have hpn := BitVec.lt_of_getLsbD hc
    exact ⟨i + q, getLsbD_shiftLeft_iff.mpr ⟨hpn, q, rfl, hq⟩, rank_shiftLeft m hpn.le, hc⟩

end Sys2Proof.Machine

namespace Sys2Proof.Proofs

open Sys2Proof.Machine

/-- Settles O9: the listed position at an index is the set bit of that rank. -/
theorem scatterPlacesBitsInOrder : Obligations.ScatterPlacesBitsInOrder :=
  fun _ s m p => getLsbD_scatter s m p

/-- Settles O10: the ranks of the set bits are different, and below popcount. -/
theorem gatherPacksBitsInOrder : Obligations.GatherPacksBitsInOrder :=
  fun _ s _ => ⟨fun _ => getLsbD_gather_rank s, fun _ => getLsbD_gather_of_popcount_le s⟩

/-- Settles O11: bit by bit for any mask; the shift laws hold for every mask that is moved up, and so for the mask of an
axis. -/
theorem scatterGatherLaws : Obligations.ScatterGatherLaws := by
  refine ⟨fun n s c m => ⟨gather_scatter, scatter_gather c m, scatter_and_not s m, (gather_and_mask c m).symm⟩,
    fun w d i s c hi => ?_⟩
  rw [mask_eq_shiftLeft w hi]
  exact ⟨scatter_shiftLeft s _ i, gather_shiftLeft c _ i⟩

end Sys2Proof.Proofs
end

section
/-! BSCAT and BGATH: scatter into an axis and gather from one, and the answer to a violation (41_bit_primitives R80 to
R85; 60_exceptions R150 to R155). -/

namespace Sys2Proof.Machine

open Sys2Proof.Claims

/-! ## Scatter into an axis and gather from one -/

/-- The set bit of rank k of an axis mask is D*k + i (R70, R80). -/
theorem getLsbD_mask_and_rank_mask (w : Width) {d : Dim} {i k : Nat} (hi : i < d.axes) (hk : k < axisBits w d) :
    (mask w d i).getLsbD (d.axes * k + i) = true ∧ rank (mask w d i) (d.axes * k + i) = k :=
  getElem?_positions_iff.mp (by simp [positions_mask w hi, hk])

/-- The index of an axis bit within its axis is its position divided by D (R70, R80). -/
theorem rank_mask {w : Width} {d : Dim} {i p : Nat} (hi : i < d.axes) (hp : (mask w d i).getLsbD p = true) :
    rank (mask w d i) p = p / d.axes := by
  obtain ⟨k, hk, rfl⟩ := (mod_eq_and_lt_mul_iff hi _ p).mp ((getLsbD_mask_iff w hi p).mp hp)
  rw [(getLsbD_mask_and_rank_mask w hi hk).2, Nat.mul_add_div (by omega), Nat.div_eq_of_lt hi, Nat.add_zero]

/-- An integer operand has the low W bits of its port (R27). -/
theorem getLsbD_intOperand_of_lt {w : Width} {k : Nat} (hk : k < w.bits) (a : Word64) :
    (intOperand w a).getLsbD k = a.getLsbD k := by
  rw [intOperand, BitVec.getLsbD_setWidth, decide_eq_true hk, Bool.true_and]

theorem getLsbD_zext64_of_lt {n k : Nat} (hk : k < 64) (v : BitVec n) : (zext64 v).getLsbD k = v.getLsbD k := by
  rw [zext64, BitVec.getLsbD_setWidth, decide_eq_true hk, Bool.true_and]

/-- Scatter into an axis puts bit k of the operand at bit D*k + i (R80). -/
theorem scatters_scatter (w : Width) {d : Dim} {i : Nat} (hi : i < d.axes) (a : Word64) :
    scatters (axisBits w d) d.axes i a (zext64 (scatter (intOperand w a) (mask w d i))) := by
  intro p hp
  have hmask : (decide (p % d.axes = i) && decide (p < d.axes * axisBits w d)) = (mask w d i).getLsbD p := by
    rw [Bool.eq_iff_iff, getLsbD_mask_iff w hi, Bool.and_eq_true, decide_eq_true_eq, decide_eq_true_eq]
  rw [getLsbD_zext64_of_lt hp, getLsbD_scatter, hmask]
  cases hm : (mask w d i).getLsbD p with
  | false => rfl
  | true =>
    have hindex : p / d.axes < w.bits := (Nat.div_le_self ..).trans_lt (BitVec.lt_of_getLsbD hm)
    rw [rank_mask hi hm, getLsbD_intOperand_of_lt hindex]

/-- Gather from an axis puts bit D*k + i of the code at bit k (R81). -/
theorem gathers_gather (w : Width) {d : Dim} {i : Nat} (hi : i < d.axes) (a : Word64) :
    gathers (axisBits w d) d.axes i a (zext64 (gather (intOperand w a) (mask w d i))) := by
  intro k hk
  rw [getLsbD_zext64_of_lt hk]
  obtain h | h := Nat.lt_or_ge k (axisBits w d)
  · obtain ⟨hmask, hrank⟩ := getLsbD_mask_and_rank_mask w hi h
    have hgather := getLsbD_gather_rank (intOperand w a) hmask
    rw [hrank, getLsbD_intOperand_of_lt (BitVec.lt_of_getLsbD hmask)] at hgather
    rw [hgather, decide_eq_true h, Bool.true_and]
  · rw [getLsbD_gather_of_popcount_le _ (popcount_mask w hi ▸ h), decide_eq_false (Nat.not_lt.mpr h), Bool.false_and]

/-! ## A violation of a ready unit -/

/-- The DIAG word as a number (R23, R152). -/
theorem diagWord_eq_diagOf (cond : Cond) (idx : OperandIndex) (op : OpWord) :
    diagWord cond idx op = diagOf op (condCode cond).toNat (operandCode idx).toNat := by
  rw [diagWord_eq_append, diagOf, ← BitVec.ofNat_toNat]
  congr 1
  rw [BitVec.toNat_append, BitVec.toNat_append, BitVec.toNat_append,
    ← Nat.shiftLeft_add_eq_or_of_lt (BitVec.isLt _), ← Nat.shiftLeft_add_eq_or_of_lt (BitVec.isLt _),
    ← Nat.shiftLeft_add_eq_or_of_lt (BitVec.isLt _)]
  simp only [Nat.shiftLeft_eq, BitVec.ofNat_eq_ofNat, BitVec.toNat_ofNat]
  omega

/-- A ready unit takes the violation that an operation raises (R152, R155). -/
theorem violates_of_violation {s : State} (hs : Ready s) {i : Instr} {cond : Cond} {idx : OperandIndex}
    (h : operate i.fields s.port.a s.port.b s.port.c = .violation cond idx) :
    violates s i (encode i) i.fields.w.bits (condCode cond).toNat (operandCode idx).toNat := by
  have hexec : exec i s = .next (s.takeViolation (s.request (encode i)) i.fields.w cond idx) := by
    rw [exec_eq_perform, State.perform_ready (State.reqReady_iff.mpr hs), h]
    rfl
  rw [violates, hexec, ← diagWord_eq_diagOf]
  obtain ⟨hm, htake⟩ | ⟨hm, htake⟩ := State.takeViolation_cases s (s.request (encode i)) i.fields.w cond idx <;>
    rw [hm, htake]
  · exact ⟨fun _ => rfl, (nomatch ·)⟩
  · refine ⟨(nomatch ·), fun _ =>
      ⟨((Config.anyResult s.accepted).setWidth i.fields.w.bits).toNat, BitVec.isLt _, ?_⟩⟩
    rw [BitVec.ofNat_toNat]
    rfl

/-! ## BSCAT and BGATH -/

/-- The range check in the terms of the port (R83). -/
theorem coordOk_intOperand_iff {w : Width} {d : Dim} {a : Word64} :
    coordOk w d (intOperand w a) = true ↔ low w.bits a ≤ 2 ^ axisBits w d - 1 := by
  rw [coordOk, decide_eq_true_eq, intOperand, BitVec.toNat_setWidth]
  rfl

/-- A row of class BSCAT scatters into its axis, behind the range check of A (R84). -/
theorem scatterCase_of_bscat {s : State} (hs : Ready s) {i : Instr} (hcls : i.fields.cls = .bscat)
    (hax : i.fields.ax.toNat < i.fields.d.axes) :
    scatterCase s i (encode i) i.fields.w.bits (axisBits i.fields.w i.fields.d) i.fields.d.axes i.fields.ax.toNat := by
  have hop : operate i.fields s.port.a s.port.b s.port.c = bscat i.fields.w i.fields.d i.fields.ax.toNat s.port.a := by
    rw [operate, hcls]
  refine ⟨fun hle => ⟨_, scatters_scatter _ hax _, exec_eq_accepts_of_ok hs ?_⟩,
    fun hlt => violates_of_violation (cond := .coordRange) (idx := .a) hs ?_⟩
  · rw [hop, bscat, coordOk_intOperand_iff.mpr hle]
    rfl
  · rw [hop, bscat, Bool.eq_false_iff.mpr (mt coordOk_intOperand_iff.mp (Nat.not_le.mpr hlt))]
    rfl

/-- A row of class BGATH gathers from its axis (R85). -/
theorem gatherCase_of_bgath {s : State} (hs : Ready s) {i : Instr} (hcls : i.fields.cls = .bgath)
    (hax : i.fields.ax.toNat < i.fields.d.axes) :
    gatherCase s i (encode i) (axisBits i.fields.w i.fields.d) i.fields.d.axes i.fields.ax.toNat := by
  refine ⟨_, gathers_gather _ hax _, exec_eq_accepts_of_ok hs ?_⟩
  rw [operate, hcls]
  rfl

end Sys2Proof.Machine

namespace Sys2Proof.Proofs

open Sys2Proof.Machine Sys2Proof.Claims

/-- Settles O13: each row is the scatter into its axis behind its range check. -/
theorem bscatScattersOrViolates : Obligations.BscatScattersOrViolates := by
  intro s hs
  refine ⟨?_, ?_, ?_, ?_, ?_, ?_, ?_, ?_, ?_, ?_⟩ <;> exact scatterCase_of_bscat hs rfl (by decide)

/-- Settles O14: each row is the gather from its axis. -/
theorem bgathGathers : Obligations.BgathGathers := by
  intro s hs
  refine ⟨?_, ?_, ?_, ?_, ?_, ?_, ?_, ?_, ?_, ?_⟩ <;> exact gatherCase_of_bgath hs rfl (by decide)

end Sys2Proof.Proofs
end

section
/-! The integer codec (42_integer_codec R100, R101, R106, R107, R109): where each axis bit lies in a code, and the terms of
a code, which share no bit. -/

namespace Sys2Proof.Machine

variable {w : Width} {d : Dim}

/-! ## One axis of a code -/

/-- Scatter into an axis by position (R80, R107). -/
theorem getLsbD_scatter_mask {i : Nat} (hi : i < d.axes) (s : BitVec w.bits) (p : Nat) :
    (scatter s (mask w d i)).getLsbD p =
      (decide (p < d.axes * axisBits w d) && decide (p % d.axes = i) && s.getLsbD (p / d.axes)) := by
  have hmask : (mask w d i).getLsbD p = (decide (p < d.axes * axisBits w d) && decide (p % d.axes = i)) := by
    rw [Bool.eq_iff_iff, getLsbD_mask_iff w hi, Bool.and_eq_true, decide_eq_true_eq, decide_eq_true_eq, and_comm]
  rw [getLsbD_scatter, hmask]
  cases hp : (mask w d i).getLsbD p with
  | false => rw [← hmask, hp, Bool.false_and, Bool.false_and]
  | true => rw [rank_mask hi hp]

/-- Bit k of a decoded axis (R101, R107). -/
theorem getLsbD_decAxis {i : Nat} (hi : i < d.axes) (code : BitVec w.bits) (k : Nat) :
    (decAxis w d i code).getLsbD k = (decide (k < axisBits w d) && code.getLsbD (d.axes * k + i)) := by
  obtain hk | hk := Nat.lt_or_ge k (axisBits w d)
  · obtain ⟨hmask, hrank⟩ := getLsbD_mask_and_rank_mask w hi hk
    have hgather := getLsbD_gather_rank code hmask
    rwa [hrank, ← Bool.true_and (code.getLsbD _), ← decide_eq_true hk] at hgather
  · rw [decide_eq_false (Nat.not_lt.mpr hk), Bool.false_and]
    exact getLsbD_gather_of_popcount_le code (popcount_mask w hi ▸ hk)

/-- The position of an axis bit is a used one, and gives back its axis and its index (R70, R107). -/
theorem mul_add_axis {i k : Nat} (hi : i < d.axes) (hk : k < axisBits w d) :
    d.axes * k + i < d.axes * axisBits w d ∧ (d.axes * k + i) % d.axes = i ∧ (d.axes * k + i) / d.axes = k := by
  obtain ⟨hmod, hlt⟩ := (mod_eq_and_lt_mul_iff hi (axisBits w d) _).mpr ⟨k, hk, rfl⟩
  exact ⟨hlt, hmod, by rw [Nat.mul_add_div (by omega), Nat.div_eq_of_lt hi, Nat.add_zero]⟩

/-! ## The layout of a code -/

/-- Bit D*k + i of the code is bit k of axis i for k < n(W, D), and the other code bits are 0 (R107). -/
def HoldsAxes (w : Width) (d : Dim) (axes : List (BitVec w.bits)) (code : BitVec w.bits) : Prop :=
  ∀ p, code.getLsbD p = (decide (p < d.axes * axisBits w d) && (axes.getD (p % d.axes) 0).getLsbD (p / d.axes))

theorem holdsAxes_enc2 (x y : BitVec w.bits) : HoldsAxes w .d2 [x, y] (enc2 w x y) := by
  intro p
  rw [enc2, BitVec.getLsbD_or, getLsbD_scatter_mask (by decide), getLsbD_scatter_mask (by decide)]
  simp only [Dim.axes]
  obtain h | h := Nat.mod_two_eq_zero_or_one p <;> simp [h]

theorem holdsAxes_enc3 (x y z : BitVec w.bits) : HoldsAxes w .d3 [x, y, z] (enc3 w x y z) := by
  intro p
  rw [enc3, BitVec.getLsbD_or, BitVec.getLsbD_or, getLsbD_scatter_mask (by decide), getLsbD_scatter_mask (by decide),
    getLsbD_scatter_mask (by decide)]
  simp only [Dim.axes]
  obtain h | h | h : p % 3 = 0 ∨ p % 3 = 1 ∨ p % 3 = 2 := by omega
  all_goals simp [h]

namespace HoldsAxes

variable {axes : List (BitVec w.bits)} {code : BitVec w.bits} (h : HoldsAxes w d axes code) {i : Nat} (hi : i < d.axes)
include h hi

theorem getLsbD_mul_add {k : Nat} (hk : k < axisBits w d) :
    code.getLsbD (d.axes * k + i) = (axes.getD i 0).getLsbD k := by
  obtain ⟨hlt, hmod, hdiv⟩ := mul_add_axis hi hk
  rw [h, hmod, hdiv, decide_eq_true hlt, Bool.true_and]

/-- Decoding an axis gives its coordinate back if that is in range (R106). -/
theorem decAxis_eq (hmax : (axes.getD i 0).toNat ≤ maxc w d) : decAxis w d i code = axes.getD i 0 := by
  refine BitVec.eq_of_getLsbD_eq fun k _ => ?_
  rw [getLsbD_decAxis hi]
  obtain hk | hk := Nat.lt_or_ge k (axisBits w d)
  · rw [decide_eq_true hk, Bool.true_and, h.getLsbD_mul_add hi hk]
  · rw [decide_eq_false (Nat.not_lt.mpr hk), Bool.false_and, getLsbD_of_le_maxc hmax hk]

end HoldsAxes

/-! ## The terms of a code -/

theorem scatter_decAxis (i : Nat) (code : BitVec w.bits) :
    scatter (decAxis w d i code) (mask w d i) = code &&& mask w d i :=
  scatter_gather ..

/-- A common operand cancels, and the one XOR term more is left. -/
theorem xor_eq_of_eq_xor {n : Nat} {x y t : BitVec n} (h : x = t ^^^ y) : x ^^^ y = t := by
  rw [h, BitVec.xor_assoc, BitVec.xor_self]
  exact BitVec.xor_zero

theorem scatter_zero {n : Nat} (m : BitVec n) : scatter 0 m = 0 :=
  BitVec.eq_of_getLsbD_eq fun p _ => by simp [getLsbD_scatter]

/-- The terms of two axes share no bit (R74, R100). -/
theorem scatter_mask_and_scatter_mask {i j : Nat} (hi : i < d.axes) (hj : j < d.axes) (hij : i ≠ j)
    (s t : BitVec w.bits) : scatter s (mask w d i) &&& scatter t (mask w d j) = 0 := by
  refine BitVec.eq_of_getLsbD_eq fun p _ => ?_
  rw [BitVec.getLsbD_and, getLsbD_scatter_mask hi, getLsbD_scatter_mask hj]
  obtain h | h : p % d.axes ≠ i ∨ p % d.axes ≠ j := by omega
  all_goals simp [h]

theorem enc2_terms_disjoint (x y : BitVec w.bits) : scatter x (mask w .d2 0) &&& scatter y (mask w .d2 1) = 0 :=
  scatter_mask_and_scatter_mask (by decide) (by decide) (by decide) x y

theorem enc3_terms_disjoint (x y z : BitVec w.bits) :
    scatter x (mask w .d3 0) &&& scatter y (mask w .d3 1) = 0 ∧
    (scatter x (mask w .d3 0) ||| scatter y (mask w .d3 1)) &&& scatter z (mask w .d3 2) = 0 := by
  refine ⟨scatter_mask_and_scatter_mask (by decide) (by decide) (by decide) x y, ?_⟩
  rw [BitVec.and_or_distrib_right, scatter_mask_and_scatter_mask (by decide) (by decide) (by decide),
    scatter_mask_and_scatter_mask (by decide) (by decide) (by decide)]
  exact BitVec.or_self

theorem enc2_eq_xor (x y : BitVec w.bits) : enc2 w x y = scatter x (mask w .d2 0) ^^^ scatter y (mask w .d2 1) :=
  (xor_eq_or_of_disjoint (enc2_terms_disjoint x y)).symm

theorem enc2_eq_add (x y : BitVec w.bits) : enc2 w x y = scatter x (mask w .d2 0) + scatter y (mask w .d2 1) :=
  (BitVec.add_eq_or_of_and_eq_zero _ _ (enc2_terms_disjoint x y)).symm

theorem enc3_eq_xor (x y z : BitVec w.bits) :
    enc3 w x y z = scatter x (mask w .d3 0) ^^^ scatter y (mask w .d3 1) ^^^ scatter z (mask w .d3 2) := by
  obtain ⟨hxy, hz⟩ := enc3_terms_disjoint x y z
  rw [xor_eq_or_of_disjoint hxy, xor_eq_or_of_disjoint hz, enc3]

theorem enc3_eq_add (x y z : BitVec w.bits) :
    enc3 w x y z = scatter x (mask w .d3 0) + scatter y (mask w .d3 1) + scatter z (mask w .d3 2) := by
  obtain ⟨hxy, hz⟩ := enc3_terms_disjoint x y z
  rw [BitVec.add_eq_or_of_and_eq_zero _ _ hxy, BitVec.add_eq_or_of_and_eq_zero _ _ hz, enc3]

end Sys2Proof.Machine

namespace Sys2Proof.Proofs

open Sys2Proof.Machine

/-- Settles O19: a code holds its axes bit by bit, and each of its terms keeps the code bits of its own mask. -/
theorem encodeDecodeRoundTrip : Obligations.EncodeDecodeRoundTrip := by
  refine fun w => ⟨fun x y hx hy => ?_, fun x y z hx hy hz => ?_, fun code => ⟨?_, ?_⟩⟩
  · have hcode := holdsAxes_enc2 x y
    exact ⟨hcode.decAxis_eq (i := 0) (by decide) hx, hcode.decAxis_eq (i := 1) (by decide) hy⟩
  · have hcode := holdsAxes_enc3 x y z
    exact ⟨hcode.decAxis_eq (i := 0) (by decide) hx, hcode.decAxis_eq (i := 1) (by decide) hy,
      hcode.decAxis_eq (i := 2) (by decide) hz⟩
  · simp only [enc2, scatter_decAxis, used, BitVec.and_or_distrib_left]
  · simp only [enc3, scatter_decAxis, used, BitVec.and_or_distrib_left]

/-- Settles O17: the terms share no bit, and each axis bit lies where the layout says. -/
theorem encodeTermsCombineAlike : Obligations.EncodeTermsCombineAlike := by
  refine ⟨fun w x y _ _ => ⟨rfl, enc2_eq_xor x y, enc2_eq_add x y, fun k hk => ?_⟩,
    fun w x y z _ _ _ => ⟨rfl, enc3_eq_xor x y z, enc3_eq_add x y z, fun k hk => ?_⟩⟩
  · have hcode := holdsAxes_enc2 x y
    exact ⟨hcode.getLsbD_mul_add (i := 0) (by decide) hk, hcode.getLsbD_mul_add (i := 1) (by decide) hk⟩
  · have hcode := holdsAxes_enc3 x y z
    exact ⟨hcode.getLsbD_mul_add (i := 0) (by decide) hk, hcode.getLsbD_mul_add (i := 1) (by decide) hk,
      hcode.getLsbD_mul_add (i := 2) (by decide) hk⟩

/-- Settles O18: the layout of a code, read from either side. -/
theorem codeLayout : Obligations.CodeLayout := by
  refine fun w => ⟨fun x y p => ?_, fun x y z p => ?_, fun d i code other hi hsame => ?_, fun d i k code hi hk => ?_, ?_⟩
  · have haxis : [x, y].getD (p % 2) 0 = if p % 2 = 0 then x else y := by
      obtain h | h := Nat.mod_two_eq_zero_or_one p <;> simp [h]
    exact haxis ▸ holdsAxes_enc2 x y p
  · have haxis : [x, y, z].getD (p % 3) 0 = if p % 3 = 0 then x else if p % 3 = 1 then y else z := by
      obtain h | h | h : p % 3 = 0 ∨ p % 3 = 1 ∨ p % 3 = 2 := by omega
      all_goals simp [h]
    exact haxis ▸ holdsAxes_enc3 x y z p
  · refine BitVec.eq_of_getLsbD_eq fun k _ => ?_
    rw [getLsbD_decAxis hi, getLsbD_decAxis hi]
    obtain hk | hk := Nat.lt_or_ge k (axisBits w d)
    · rw [hsame _ (mul_add_axis hi hk).1]
    · rw [decide_eq_false (Nat.not_lt.mpr hk), Bool.false_and, Bool.false_and]
  · rw [getLsbD_decAxis hi, decide_eq_true hk, Bool.true_and]
  · cases w <;> decide +kernel

/-- Settles O20: as XORs of their terms, the two codes differ in the term of the changed axis alone. -/
theorem axisChangesOnlyItsOwnBits : Obligations.AxisChangesOnlyItsOwnBits := by
  refine fun w x y z => ⟨?_, ?_, ?_, ?_, ?_⟩
  all_goals
    refine xor_eq_of_eq_xor ?_
    simp only [enc2_eq_xor, enc3_eq_xor, scatter_zero]
    ac_rfl

end Sys2Proof.Proofs
end

section
/-! MENC, MDEC and FDEC: the range checks and the codec on the operand ports (42_integer_codec R102 to R108;
43_normalizer R128, R129). -/

namespace Sys2Proof.Machine

open Sys2Proof.Claims

variable {w : Width} {d : Dim}

/-! ## Ports -/

theorem coordOk_intOperand_eq_false {a : Word64} (h : 2 ^ axisBits w d - 1 < low w.bits a) :
    coordOk w d (intOperand w a) = false :=
  Bool.eq_false_iff.mpr (mt coordOk_intOperand_iff.mp (Nat.not_le.mpr h))

theorem toNat_zext64 (v : BitVec w.bits) : (zext64 v).toNat = v.toNat :=
  BitVec.toNat_setWidth_of_le (by cases w <;> decide)

/-- A code of the coordinates on the ports, on its result port (R27, R107). -/
theorem interleaves_zext64 {axes : List Word64} {code : BitVec w.bits}
    (h : HoldsAxes w d (axes.map (intOperand w)) code) : interleaves (axisBits w d) d.axes axes (zext64 code) := by
  intro p hp
  rw [getLsbD_zext64_of_lt hp, h]
  obtain hused | hused := Nat.lt_or_ge p (d.axes * axisBits w d)
  · have hindex : p / d.axes < w.bits :=
      (Nat.div_le_self ..).trans_lt (hused.trans_le (Nat.mul_div_le ..))
    rw [show (0 : BitVec w.bits) = intOperand w 0 by cases w <;> rfl, List.getD_map, getLsbD_intOperand_of_lt hindex]
  · rw [decide_eq_false (Nat.not_lt.mpr hused), Bool.false_and, Bool.false_and]

/-- A dequantized coordinate on its result port (R121, R135). -/
theorem dequantPort_eq_floatOut (t : FloatType) (q : BitVec w.bits) :
    dequantPort t w d q = floatOut t w d (zext64 q).toNat := by
  rw [toNat_zext64, floatOut, BitVec.ofNat_toNat]
  rfl

/-! ## The rows of each class -/

section
variable {s : State} (hs : Ready s) {i : Instr}
include hs

/-- A row of class MENC interleaves two coordinates behind their range checks, A before B (R102, R156). -/
theorem enc2Case_of_menc (hcls : i.fields.cls = .menc) (hd : i.fields.d = .d2) :
    enc2Case s i (encode i) i.fields.w.bits (axisBits i.fields.w .d2) := by
  have hop : operate i.fields s.port.a s.port.b s.port.c = menc2 i.fields.w s.port.a s.port.b := by
    rw [operate, hcls, hd]
  refine ⟨fun ha hb => ⟨_, interleaves_zext64 (holdsAxes_enc2 _ _), exec_eq_accepts_of_ok hs ?_⟩,
    fun ha => violates_of_violation (cond := .coordRange) (idx := .a) hs ?_,
    fun ha hb => violates_of_violation (cond := .coordRange) (idx := .b) hs ?_⟩
  · simp [hop, menc2, coordOk_intOperand_iff.mpr ha, coordOk_intOperand_iff.mpr hb]
  · simp [hop, menc2, coordOk_intOperand_eq_false ha]
  · simp [hop, menc2, coordOk_intOperand_iff.mpr ha, coordOk_intOperand_eq_false hb]

/-- A row of class MENC interleaves three coordinates behind their range checks, A, then B, then C (R103, R156). -/
theorem enc3Case_of_menc (hcls : i.fields.cls = .menc) (hd : i.fields.d = .d3) :
    enc3Case s i (encode i) i.fields.w.bits (axisBits i.fields.w .d3) := by
  have hop : operate i.fields s.port.a s.port.b s.port.c = menc3 i.fields.w s.port.a s.port.b s.port.c := by
    rw [operate, hcls, hd]
  refine ⟨fun ha hb hc => ⟨_, interleaves_zext64 (holdsAxes_enc3 _ _ _), exec_eq_accepts_of_ok hs ?_⟩,
    fun ha => violates_of_violation (cond := .coordRange) (idx := .a) hs ?_,
    fun ha hb => violates_of_violation (cond := .coordRange) (idx := .b) hs ?_,
    fun ha hb hc => violates_of_violation (cond := .coordRange) (idx := .c) hs ?_⟩
  · simp [hop, menc3, coordOk_intOperand_iff.mpr ha, coordOk_intOperand_iff.mpr hb, coordOk_intOperand_iff.mpr hc]
  · simp [hop, menc3, coordOk_intOperand_eq_false ha]
  · simp [hop, menc3, coordOk_intOperand_iff.mpr ha, coordOk_intOperand_eq_false hb]
  · simp [hop, menc3, coordOk_intOperand_iff.mpr ha, coordOk_intOperand_iff.mpr hb, coordOk_intOperand_eq_false hc]

/-- A row of class MDEC gathers two axes (R104). -/
theorem dec2Case_of_mdec (hcls : i.fields.cls = .mdec) (hd : i.fields.d = .d2) :
    dec2Case s i (encode i) (axisBits i.fields.w .d2) := by
  refine ⟨_, _, gathers_gather _ (by decide) _, gathers_gather _ (by decide) _, exec_eq_accepts_of_ok hs ?_⟩
  rw [operate, hcls, hd]
  rfl

/-- A row of class MDEC gathers three axes (R105). -/
theorem dec3Case_of_mdec (hcls : i.fields.cls = .mdec) (hd : i.fields.d = .d3) :
    dec3Case s i (encode i) (axisBits i.fields.w .d3) := by
  refine ⟨_, _, _, gathers_gather _ (by decide) _, gathers_gather _ (by decide) _, gathers_gather _ (by decide) _,
    exec_eq_accepts_of_ok hs ?_⟩
  rw [operate, hcls, hd]
  rfl

/-- A row of class FDEC dequantizes the two axes it gathers (R128). -/
theorem floatDec2Case_of_fdec (hcls : i.fields.cls = .fdec) (hd : i.fields.d = .d2) :
    floatDec2Case s i (encode i) i.fields.t i.fields.w (axisBits i.fields.w .d2) := by
  refine ⟨_, _, gathers_gather _ (by decide) _, gathers_gather _ (by decide) _, exec_eq_accepts_of_ok hs ?_⟩
  rw [operate, hcls, hd, ← dequantPort_eq_floatOut, ← dequantPort_eq_floatOut]
  rfl

/-- A row of class FDEC dequantizes the three axes it gathers (R129). -/
theorem floatDec3Case_of_fdec (hcls : i.fields.cls = .fdec) (hd : i.fields.d = .d3) :
    floatDec3Case s i (encode i) i.fields.t i.fields.w (axisBits i.fields.w .d3) := by
  refine ⟨_, _, _, gathers_gather _ (by decide) _, gathers_gather _ (by decide) _, gathers_gather _ (by decide) _,
    exec_eq_accepts_of_ok hs ?_⟩
  rw [operate, hcls, hd, ← dequantPort_eq_floatOut, ← dequantPort_eq_floatOut, ← dequantPort_eq_floatOut]
  rfl

end

end Sys2Proof.Machine

namespace Sys2Proof.Proofs

open Sys2Proof.Machine Sys2Proof.Claims

/-- Settles O15: each row holds its coordinates behind their range checks. -/
theorem mencInterleavesOrViolates : Obligations.MencInterleavesOrViolates :=
  fun _ hs => ⟨enc2Case_of_menc hs rfl rfl, enc2Case_of_menc hs rfl rfl, enc3Case_of_menc hs rfl rfl,
    enc3Case_of_menc hs rfl rfl⟩

/-- Settles O16: each row gathers every axis of its dimension. -/
theorem mdecDeinterleaves : Obligations.MdecDeinterleaves :=
  fun _ hs => ⟨dec2Case_of_mdec hs rfl rfl, dec2Case_of_mdec hs rfl rfl, dec3Case_of_mdec hs rfl rfl,
    dec3Case_of_mdec hs rfl rfl⟩

/-- Settles O28: each row dequantizes what it gathers from every axis of its dimension. -/
theorem fdecDecodesToFloats : Obligations.FdecDecodesToFloats :=
  fun _ hs => ⟨floatDec2Case_of_fdec hs rfl rfl, floatDec2Case_of_fdec hs rfl rfl, floatDec2Case_of_fdec hs rfl rfl,
    floatDec3Case_of_fdec hs rfl rfl, floatDec3Case_of_fdec hs rfl rfl, floatDec3Case_of_fdec hs rfl rfl⟩

end Sys2Proof.Proofs
end

section
/-! `RN_T` against the order: it keeps every bound that is representable, and is exact on what is representable
(00_scope R16). -/

namespace Sys2Proof.Machine

open Sys2Proof.Claims

variable {t : FloatType} {num den m : Nat}

section
variable (hden : 0 < den)
include hden

theorem representable_roundUnits : representable t (roundUnits t num den) :=
  (Proofs.roundingIsNearestTiesToEven t num den hden).1

/-- No representable magnitude is nearer to the quotient. -/
theorem distance_roundUnits_le (hm : representable t m) :
    distance num den (roundUnits t num den) ≤ distance num den m :=
  ((Proofs.roundingIsNearestTiesToEven t num den hden).2 m hm).1

/-- Rounding does not pass a representable bound above the quotient. -/
theorem roundUnits_le (hm : representable t m) (h : num ≤ m * den) : roundUnits t num den ≤ m := by
  by_contra! hlt
  have hnear := distance_roundUnits_le (num := num) hden hm
  have hgrow := Nat.mul_lt_mul_of_pos_right hlt hden
  unfold distance at hnear
  omega

/-- Rounding does not pass a representable bound below the quotient. -/
theorem le_roundUnits (hm : representable t m) (h : m * den ≤ num) : m ≤ roundUnits t num den := by
  by_contra! hlt
  have hnear := distance_roundUnits_le (num := num) hden hm
  have hgrow := Nat.mul_lt_mul_of_pos_right hlt hden
  unfold distance at hnear
  omega

/-- A representable quotient is kept. -/
theorem roundUnits_mul_eq (hm : representable t m) : roundUnits t (m * den) den = m :=
  (roundUnits_le hden hm le_rfl).antisymm (le_roundUnits hden hm le_rfl)

/-- The rounding error is at most half of the quotient's last place. -/
theorem two_mul_distance_roundUnits_le :
    2 * distance num den (roundUnits t num den) ≤ den * 2 ^ lastPlace t (num / den) := by
  have hgrid : 0 < den * 2 ^ lastPlace t (num / den) := Nat.mul_pos hden (Nat.two_pow_pos _)
  rw [roundUnits, distance_mul]
  generalize den * 2 ^ lastPlace t (num / den) = g at hgrid ⊢
  have hlt := Nat.mod_lt num hgrid
  have hr := distance_cases (num := num) hgrid (roundQuot num g)
  obtain ⟨h, hle, -⟩ | ⟨h, hle, -⟩ := roundQuot_cases num g <;> omega

end

/-- A representable magnitude is kept. -/
theorem roundUnits_one_eq (hm : representable t m) : roundUnits t m 1 = m := by
  simpa using roundUnits_mul_eq Nat.one_pos hm

/-- The representable magnitudes below a multiple `m` of 2^p above 2^(fracBits + p) end 2^p below it, so a number less
than half of that below `m` is not rounded to one of them. -/
theorem le_roundUnits_of_near {p : Nat} (hm : representable t m) (hdvd : 2 ^ p ∣ m) (hlt : 2 ^ (fracBits t + p) < m)
    (hnear : 2 * (m - num) < 2 ^ p) : m ≤ roundUnits t num 1 := by
  by_contra! hr
  have hgap : roundUnits t num 1 + 2 ^ p ≤ m := by
    obtain hdvd' | hlow := representable_cases (representable_roundUnits (num := num) (t := t) Nat.one_pos) p
    · have := Nat.le_of_dvd (by omega) (Nat.dvd_sub hdvd hdvd')
      omega
    · have := Nat.le_of_dvd (by omega) (Nat.dvd_sub hdvd (Nat.pow_dvd_pow 2 (Nat.le_add_left p (fracBits t))))
      omega
  have hbest := distance_roundUnits_le (num := num) Nat.one_pos hm
  unfold distance at hbest
  omega

end Sys2Proof.Machine
end

section
/-! The scale M and the levels q ≤ M in units (43_normalizer R120, R121, R123). -/

namespace Sys2Proof.Machine

open Sys2Proof.Claims

variable {t : FloatType} {w : Width} {d : Dim} {q : Nat}

/-! ## The scale -/

/-- The legal pairs of R8. -/
theorem legalPair_iff : legalPair t w ↔ t = .binary32 ∧ w = .w32 ∨ t = .binary64 := by
  cases t <;> cases w <;> simp [legalPair]

/-- In a legal pair, an axis is no wider than the fraction (R123). -/
theorem axisBits_le_fracBits (h : legalPair t w) : axisBits w d ≤ fracBits t := by
  obtain ⟨rfl, rfl⟩ | rfl := legalPair_iff.mp h
  · cases d <;> decide
  · cases w <;> cases d <;> decide

theorem fracBits_lt_bias (t : FloatType) : fracBits t + 1 < bias t := by cases t <;> decide

theorem maxc_lt_two_pow (w : Width) (d : Dim) : maxc w d < 2 ^ axisBits w d := Nat.sub_one_lt (Nat.two_pow_pos _).ne'

theorem maxc_lt_two_pow_bits (w : Width) (d : Dim) : maxc w d < 2 ^ w.bits :=
  (maxc_lt_two_pow w d).trans_le (Nat.pow_le_pow_right (by decide) (Nat.div_le_self ..))

theorem maxc_pos (w : Width) (d : Dim) : 0 < maxc w d := by cases w <;> cases d <;> decide

theorem maxc_lt_two_pow_fracBits (h : legalPair t w) : maxc w d < 2 ^ fracBits t :=
  (maxc_lt_two_pow w d).trans_le (Nat.pow_le_pow_right (by decide) (axisBits_le_fracBits h))

/-! ## Whole and half levels are representable -/

theorem oneUnits_pos (t : FloatType) : 0 < oneUnits t := Nat.two_pow_pos _

/-- The value 0.5 in units. -/
def halfUnits (t : FloatType) : Nat := 2 ^ (bias t - 2 + fracBits t)

theorem oneUnits_eq_two_mul (t : FloatType) : oneUnits t = 2 * halfUnits t := by
  have hexp : bias t - 1 + fracBits t = bias t - 2 + fracBits t + 1 := by cases t <;> rfl
  rw [oneUnits, halfUnits, hexp, pow_succ']

/-- A natural number below 2^(fracBits + 1) is representable (R121, R123). -/
theorem representable_mul_oneUnits (hq : q < 2 ^ (fracBits t + 1)) : representable t (q * oneUnits t) :=
  ⟨q, _, hq, rfl⟩

theorem representable_mul_halfUnits (hq : q < 2 ^ (fracBits t + 1)) : representable t (q * halfUnits t) :=
  ⟨q, _, hq, rfl⟩

theorem representable_zero (t : FloatType) : representable t 0 := ⟨0, 0, Nat.two_pow_pos _, rfl⟩

theorem representable_oneUnits (t : FloatType) : representable t (oneUnits t) := by
  simpa using representable_mul_oneUnits (t := t) (q := 1) (Nat.one_lt_two_pow (by omega))

/-- Levels, and the numbers halfway to the levels beside them, are within the significand. -/
theorem two_mul_add_one_lt (h : legalPair t w) (hq : q ≤ maxc w d) : 2 * q + 1 < 2 ^ (fracBits t + 1) := by
  have := maxc_lt_two_pow_fracBits (d := d) h
  rw [pow_succ]
  omega

theorem representable_level (h : legalPair t w) (hq : q ≤ maxc w d) : representable t (q * oneUnits t) :=
  representable_mul_oneUnits (by have := two_mul_add_one_lt h hq; omega)

theorem representable_next_level (h : legalPair t w) (hq : q ≤ maxc w d) : representable t ((q + 1) * oneUnits t) :=
  representable_mul_oneUnits (by have := two_mul_add_one_lt h hq; omega)

/-- The scale is exact in every legal pair (R123). -/
theorem roundUnits_maxc (h : legalPair t w) : roundUnits t (maxc w d * oneUnits t) 1 = maxc w d * oneUnits t :=
  roundUnits_one_eq (representable_level h le_rfl)

/-! ## The magnitude of a dequantized level -/

/-- RN_T(q / M) in units: the magnitude of the dequantized level (R121). -/
def levelUnits (t : FloatType) (w : Width) (d : Dim) (q : Nat) : Nat := roundUnits t (q * oneUnits t) (maxc w d)

theorem levelUnits_zero : levelUnits t w d 0 = 0 := by
  simpa [levelUnits] using roundUnits_mul_eq (maxc_pos w d) (representable_zero t)

theorem levelUnits_maxc : levelUnits t w d (maxc w d) = oneUnits t := by
  rw [levelUnits, Nat.mul_comm]
  exact roundUnits_mul_eq (maxc_pos w d) (representable_oneUnits t)

theorem levelUnits_le (hq : q ≤ maxc w d) : levelUnits t w d q ≤ oneUnits t :=
  roundUnits_le (maxc_pos w d) (representable_oneUnits t) (by rw [Nat.mul_comm]; exact Nat.mul_le_mul_left _ hq)

/-- Below 2^(k+1), and below the top number M = 2^n - 1 where n = k + 1, a number times 2^(n-k) stays below 2M. -/
theorem mul_two_pow_add_two_lt {k j : Nat} (hhi : q < 2 ^ (k + 1)) (hq : q + 1 < 2 ^ k * 2 ^ (j + 1)) :
    q * 2 ^ (j + 1) + 2 < 2 * (2 ^ k * 2 ^ (j + 1)) := by
  rw [pow_succ] at hhi
  obtain _ | j := j
  · rw [zero_add, pow_one] at hq ⊢
    omega
  · have hgrow := Nat.mul_le_mul_right (2 ^ (j + 1 + 1)) hhi
    have hstep : 4 ≤ 2 ^ (j + 1 + 1) := Nat.pow_le_pow_right (n := 2) (by decide) (Nat.le_add_left 2 j)
    rw [Nat.succ_mul, Nat.mul_right_comm] at hgrow
    omega

/-- Division by M = 2^n - 1 leaves a level below M in the binade in which division by 2^n would. -/
theorem lastPlace_level {k : Nat} (h : legalPair t w) (hlo : 2 ^ k ≤ q) (hhi : q < 2 ^ (k + 1)) (hq : q < maxc w d) :
    lastPlace t (q * oneUnits t / maxc w d) + axisBits w d = bias t - 1 + k := by
  have hfrac := axisBits_le_fracBits (d := d) h
  have hbias := fracBits_lt_bias t
  obtain ⟨j, hj⟩ : ∃ j, axisBits w d = k + (j + 1) := Nat.exists_eq_add_of_lt
    ((Nat.pow_lt_pow_iff_right (by decide)).mp (hlo.trans_lt (hq.trans (maxc_lt_two_pow w d))))
  obtain ⟨e, he⟩ : ∃ e, bias t - 1 = e + (j + 1) := ⟨bias t - 1 - (j + 1), by omega⟩
  have hone : oneUnits t = 2 ^ (fracBits t + e) * 2 ^ (j + 1) := by
    rw [oneUnits, ← pow_add]
    congr 1
    omega
  have hscale : maxc w d + 1 = 2 ^ k * 2 ^ (j + 1) := by
    rw [← pow_add, ← hj]
    exact Nat.sub_add_cancel (Nat.two_pow_pos _)
  suffices hlast : lastPlace t (q * oneUnits t / maxc w d) = e by omega
  apply lastPlace_eq
  · rw [Nat.le_div_iff_mul_le (maxc_pos w d), hone, Nat.mul_left_comm]
    have := Nat.mul_le_mul_right (2 ^ (j + 1)) hlo
    exact Nat.mul_le_mul_left _ (by omega)
  · rw [Nat.div_lt_iff_lt_mul (maxc_pos w d), hone, Nat.mul_left_comm, pow_succ _ (fracBits t + e), Nat.mul_assoc]
    have := mul_two_pow_add_two_lt (j := j) hhi (by omega)
    exact Nat.mul_lt_mul_of_pos_left (by omega) (Nat.two_pow_pos _)

/-- A dequantized level, multiplied back, misses the level by less than half of the level's last place. -/
theorem two_mul_distance_levelUnits_lt {k : Nat} (h : legalPair t w) (hlo : 2 ^ k ≤ q) (hhi : q < 2 ^ (k + 1))
    (hq : q ≤ maxc w d) : 2 * distance (q * oneUnits t) (maxc w d) (levelUnits t w d q) < 2 ^ (bias t - 1 + k) := by
  obtain hq | rfl := Nat.lt_or_eq_of_le hq
  · calc
      _ ≤ maxc w d * 2 ^ lastPlace t (q * oneUnits t / maxc w d) := two_mul_distance_roundUnits_le (maxc_pos w d)
      _ < 2 ^ axisBits w d * 2 ^ lastPlace t (q * oneUnits t / maxc w d) :=
        Nat.mul_lt_mul_of_pos_right (maxc_lt_two_pow w d) (Nat.two_pow_pos _)
      _ = 2 ^ (bias t - 1 + k) := by rw [← pow_add, Nat.add_comm, lastPlace_level h hlo hhi hq]
  · have hexact : distance (maxc w d * oneUnits t) (maxc w d) (oneUnits t) = 0 := by simp [distance, Nat.mul_comm]
    rw [levelUnits_maxc, hexact]
    exact Nat.two_pow_pos _

/-- A level's last place is at most one whole level. -/
theorem two_pow_le_oneUnits {k : Nat} (h : legalPair t w) (hlo : 2 ^ k ≤ q) (hq : q ≤ maxc w d) :
    k ≤ fracBits t ∧ 2 ^ (bias t - 1 + k) ≤ oneUnits t := by
  have hk : k < fracBits t :=
    (Nat.pow_lt_pow_iff_right (by decide)).mp ((hlo.trans hq).trans_lt (maxc_lt_two_pow_fracBits h))
  exact ⟨hk.le, Nat.pow_le_pow_right (by decide) (by omega)⟩

/-- A dequantized level, multiplied back, misses the level by at most half a level. -/
theorem two_mul_distance_levelUnits_le (h : legalPair t w) (hq : q ≤ maxc w d) :
    2 * distance (q * oneUnits t) (maxc w d) (levelUnits t w d q) ≤ oneUnits t := by
  obtain rfl | hpos := eq_or_ne q 0
  · simp [levelUnits_zero, distance]
  · exact (two_mul_distance_levelUnits_lt h (Nat.log2_self_le hpos) Nat.lt_log2_self hq).le.trans
      (two_pow_le_oneUnits h (Nat.log2_self_le hpos) hq).2

end Sys2Proof.Machine
end

section
/-! The range check by bit pattern (43_normalizer R122; 00_scope R16). -/

namespace Sys2Proof.Machine

open Sys2Proof.Claims

variable {t : FloatType} {v : BitVec (floatBits t)}

/-! ## The range check by value -/

/-- What a finite pattern says, by its fields (R16). -/
theorem realOf_eq_finite_iff_fields {neg : Bool} {n : Nat} :
    realOf t v = .finite neg n ↔ expOf t v ≠ 2 ^ expBits t - 1 ∧ signOf t v = neg ∧ unitsOf t v = n := by
  unfold realOf
  by_cases hexp : expOf t v = 2 ^ expBits t - 1
  · by_cases hfrac : fracOf t v = 0 <;> simp [hexp, hfrac]
  · simp [hexp]

/-- A pattern in [0, 1] is finite, at most 1.0, and not negative unless it is -0.0 (R122). -/
theorem inrange_iff_fields :
    inrange t v = true ↔
      expOf t v ≠ 2 ^ expBits t - 1 ∧ unitsOf t v ≤ oneUnits t ∧ (signOf t v = true → unitsOf t v = 0) := by
  have hvalue : inrange t v = true ↔
      ∃ neg n, realOf t v = .finite neg n ∧ n ≤ oneUnits t ∧ (neg = true → n = 0) := by
    unfold inrange
    cases realOf t v with
    | nan => simp [FloatVal.le]
    | inf neg => cases neg <;> simp [FloatVal.le]
    | finite neg n => cases neg <;> simp +contextual [FloatVal.le]
  simp only [hvalue, realOf_eq_finite_iff_fields, and_assoc, exists_and_left, exists_eq_left']

/-! ## The range check by pattern -/

/-- Below the sign bit, a pattern is its exponent field above its fraction field (R16). -/
theorem toNat_mod_sign : v.toNat % 2 ^ (fracBits t + expBits t) = expOf t v * 2 ^ fracBits t + fracOf t v := by
  rw [pow_add, Nat.mod_mul, Nat.add_comm, Nat.mul_comm]
  rfl

theorem toNat_of_signOf_eq_false (h : signOf t v = false) : v.toNat = expOf t v * 2 ^ fracBits t + fracOf t v := by
  rw [← toNat_mod_sign, Nat.mod_eq_of_lt (signOf_eq_false_iff.mp h)]

theorem toNat_of_signOf_eq_true (h : signOf t v = true) :
    v.toNat = 2 ^ (fracBits t + expBits t) + (expOf t v * 2 ^ fracBits t + fracOf t v) := by
  have hge : 2 ^ (fracBits t + expBits t) ≤ v.toNat :=
    Nat.not_lt.mp (mt signOf_eq_false_iff.mpr (by simp [h]))
  have hlt : v.toNat < 2 * 2 ^ (fracBits t + expBits t) := by
    rw [← pow_succ', ← floatBits_eq]
    exact v.isLt
  rw [← toNat_mod_sign, Nat.mod_eq_sub_mod hge, Nat.mod_eq_of_lt (by omega)]
  omega

/-- Magnitudes at most 1.0 are those whose fields, side by side, are at most the exponent field of 1.0 (R16). -/
theorem fieldUnits_le_oneUnits_iff {e f : Nat} (hf : f < 2 ^ fracBits t) :
    fieldUnits t e f ≤ oneUnits t ↔ e * 2 ^ fracBits t + f ≤ bias t * 2 ^ fracBits t := by
  obtain ⟨b, hb⟩ : ∃ b, bias t = b + 1 := Nat.exists_eq_add_one.mpr (by have := fracBits_lt_bias t; omega)
  have hone : oneUnits t = 2 ^ fracBits t * 2 ^ b := by rw [oneUnits, hb, Nat.add_sub_cancel, ← pow_add, Nat.add_comm]
  rw [hone, hb]
  obtain hlt | rfl | hgt := Nat.lt_trichotomy e (b + 1)
  · have hfields : fieldUnits t e f ≤ 2 ^ fracBits t * 2 ^ e := by
      obtain _ | p := e
      · simpa [fieldUnits] using hf.le
      · rw [pow_succ', ← Nat.mul_assoc]
        exact Nat.mul_le_mul_right (2 ^ p) (show 2 ^ fracBits t + f ≤ 2 ^ fracBits t * 2 by omega)
    have hgrow := Nat.mul_le_mul_left (2 ^ fracBits t)
      (Nat.pow_le_pow_right (n := 2) (by decide) (Nat.le_of_lt_succ hlt))
    have hnext := Nat.mul_le_mul_right (2 ^ fracBits t) hlt
    rw [Nat.succ_mul] at hnext
    exact iff_of_true (hfields.trans hgrow) (by omega)
  · have hfields : fieldUnits t (b + 1) f = (2 ^ fracBits t + f) * 2 ^ b := rfl
    rw [hfields, Nat.mul_le_mul_right_iff (Nat.two_pow_pos b)]
    omega
  · obtain _ | p := e
    · omega
    have hfields : fieldUnits t (p + 1) f = (2 ^ fracBits t + f) * 2 ^ p := rfl
    have hgrow : 2 ^ fracBits t * 2 ^ b < 2 ^ fracBits t * 2 ^ p :=
      Nat.mul_lt_mul_of_pos_left (Nat.pow_lt_pow_right (by decide) (by omega)) (Nat.two_pow_pos _)
    have hnext := Nat.mul_lt_mul_of_pos_right hgt (Nat.two_pow_pos (fracBits t))
    rw [hfields, Nat.add_mul]
    exact iff_of_false (by omega) (by omega)

/-- The magnitude is 0 exactly when both fields are 0 (R16). -/
theorem fieldUnits_eq_zero_iff {e f : Nat} : fieldUnits t e f = 0 ↔ e * 2 ^ fracBits t + f = 0 := by
  by_cases he : e = 0 <;> simp [fieldUnits, he]

/-- The range check by pattern, for either type (R122). -/
theorem inrange_iff_toNat :
    inrange t v = true ↔ v.toNat ≤ bias t * 2 ^ fracBits t ∨ v.toNat = 2 ^ (fracBits t + expBits t) := by
  have hfrac : fracOf t v < 2 ^ fracBits t := Nat.mod_lt _ (Nat.two_pow_pos _)
  have hone : bias t * 2 ^ fracBits t < 2 ^ (fracBits t + expBits t) := by cases t <;> decide
  have hunits : unitsOf t v = fieldUnits t (expOf t v) (fracOf t v) := rfl
  rw [inrange_iff_fields, hunits, fieldUnits_le_oneUnits_iff hfrac]
  cases hsign : signOf t v with
  | false =>
    have hlow := signOf_eq_false_iff.mp hsign
    have hfinite (h : v.toNat ≤ bias t * 2 ^ fracBits t) : expOf t v ≠ 2 ^ expBits t - 1 := by
      have hbias : bias t < 2 ^ expBits t - 1 := by cases t <;> decide
      have := Nat.mul_lt_mul_of_pos_right hbias (Nat.two_pow_pos (fracBits t))
      rw [toNat_of_signOf_eq_false hsign] at h
      intro hexp
      rw [hexp] at h
      omega
    rw [← toNat_of_signOf_eq_false hsign, or_iff_left hlow.ne]
    simpa using hfinite
  | true =>
    have hexp : 0 ≠ 2 ^ expBits t - 1 := by cases t <;> decide
    rw [toNat_of_signOf_eq_true hsign, Nat.add_eq_left, or_iff_right (by omega), ← fieldUnits_eq_zero_iff]
    refine ⟨fun ⟨_, _, hzero⟩ => hzero rfl, fun hzero => ?_⟩
    have hfields := fieldUnits_eq_zero_iff.mp hzero
    obtain ⟨he, -⟩ : expOf t v = 0 ∧ fracOf t v = 0 := by simpa using hfields
    exact ⟨he ▸ hexp, by omega, fun _ => hzero⟩

end Sys2Proof.Machine

namespace Sys2Proof.Proofs

open Sys2Proof.Machine

/-- Settles O23: the two types of the range check by pattern. -/
theorem rangePredicateByPattern : Obligations.RangePredicateByPattern :=
  ⟨fun _ => inrange_iff_toNat (t := .binary32), fun _ => inrange_iff_toNat (t := .binary64)⟩

end Sys2Proof.Proofs
end

section
/-! Quantization and dequantization of coordinates (43_normalizer R120, R121, R123, R130 to R134). -/

namespace Sys2Proof.Machine

open Sys2Proof.Claims

variable {t : FloatType} {w : Width} {d : Dim} {q : Nat} {v : BitVec (floatBits t)}

/-! ## Quantization -/

theorem quant_eq_of_realOf {neg : Bool} {n : Nat} (h : realOf t v = .finite neg n) :
    quant t w d v = roundUnits t (n * maxc w d) 1 / oneUnits t := by
  rw [quant, h]

/-- What a pattern in [0, 1] says of its magnitude (R122). -/
theorem realOf_of_inrange (h : inrange t v = true) :
    ∃ neg, realOf t v = .finite neg (unitsOf t v) ∧ unitsOf t v ≤ oneUnits t ∧ representable t (unitsOf t v) := by
  obtain ⟨hexp, hle, hneg⟩ := inrange_iff_fields.mp h
  have hreal : realOf t v = .finite (signOf t v) (unitsOf t v) := realOf_eq_finite_iff_fields.mpr ⟨hexp, rfl, rfl⟩
  refine ⟨_, hreal, hle, ?_⟩
  cases hsign : signOf t v with
  | false => exact ((Proofs.floatPatternsHoldTheirUnits t).2 v _ (hsign ▸ hreal)).1
  | true => exact hneg hsign ▸ representable_zero t

theorem quant_eq_of_inrange (h : inrange t v = true) :
    quant t w d v = roundUnits t (unitsOf t v * maxc w d) 1 / oneUnits t := by
  obtain ⟨_, hreal, -⟩ := realOf_of_inrange h
  exact quant_eq_of_realOf hreal

/-- A quantized level never exceeds M (R134). -/
theorem quant_le_maxc (h : legalPair t w) (hv : inrange t v = true) : quant t w d v ≤ maxc w d := by
  obtain ⟨_, -, hle, -⟩ := realOf_of_inrange hv
  rw [quant_eq_of_inrange hv]
  refine Nat.div_le_of_le_mul (roundUnits_le Nat.one_pos ?_ ?_)
  · exact Nat.mul_comm .. ▸ representable_level h le_rfl
  · rw [Nat.mul_one]
    exact Nat.mul_le_mul_right _ hle

theorem toNat_quantCoord (h : legalPair t w) (hv : inrange t v = true) :
    (quantCoord t w d v).toNat = quant t w d v := by
  rw [quantCoord, BitVec.toNat_ofNat, Nat.mod_eq_of_lt ((quant_le_maxc h hv).trans_lt (maxc_lt_two_pow_bits w d))]

/-! ## Dequantization -/

/-- RN_T(RN_T(q) / M) does not overflow for a W-bit q (R121). -/
theorem dequant_units_lt_overflow (hq : q < 2 ^ w.bits) :
    roundUnits t (roundUnits t (q * oneUnits t) 1) (maxc w d) < overflowUnits t := by
  have hwidth : w.bits < bias t + 1 := by cases w <;> cases t <;> decide
  have hrep : representable t (oneUnits t * 2 ^ w.bits) := by
    rw [oneUnits, ← pow_add, ← Nat.one_mul (2 ^ _)]
    exact ⟨1, _, Nat.one_lt_two_pow (by omega), rfl⟩
  have hconv : roundUnits t (q * oneUnits t) 1 ≤ oneUnits t * 2 ^ w.bits := by
    refine roundUnits_le Nat.one_pos hrep ?_
    rw [Nat.mul_one, Nat.mul_comm]
    exact Nat.mul_le_mul_left _ hq.le
  calc
    _ ≤ oneUnits t * 2 ^ w.bits :=
      roundUnits_le (maxc_pos w d) hrep (hconv.trans (Nat.le_mul_of_pos_right _ (maxc_pos w d)))
    _ < overflowUnits t := Nat.mul_lt_mul_of_pos_left (Nat.pow_lt_pow_right (by decide) hwidth) (oneUnits_pos t)

/-- The result of DQNT is finite with sign 0 and holds RN_T(RN_T(q) / M) (R121). -/
theorem realOf_dequant (hq : q < 2 ^ w.bits) :
    realOf t (dequant t w d q) = .finite false (roundUnits t (roundUnits t (q * oneUnits t) 1) (maxc w d)) :=
  (Proofs.floatPatternsHoldTheirUnits t).1 _ (representable_roundUnits (maxc_pos w d)) (dequant_units_lt_overflow hq)

/-- A level converts exactly, so its dequantized magnitude is RN_T(q / M) (R121, R123). -/
theorem realOf_dequant_level (h : legalPair t w) (hq : q ≤ maxc w d) :
    realOf t (dequant t w d q) = .finite false (levelUnits t w d q) := by
  rw [realOf_dequant (hq.trans_lt (maxc_lt_two_pow_bits w d)), roundUnits_one_eq (representable_level h hq), levelUnits]

theorem unitsOf_dequant_level (h : legalPair t w) (hq : q ≤ maxc w d) :
    unitsOf t (dequant t w d q) = levelUnits t w d q :=
  (realOf_eq_finite_iff_fields.mp (realOf_dequant_level h hq)).2.2

theorem dequant_zero : dequant t w d 0 = 0 := by
  have hzero : roundUnits t 0 1 = 0 := roundUnits_one_eq (representable_zero t)
  have hlevel : roundUnits t 0 (maxc w d) = 0 := by simpa [levelUnits] using levelUnits_zero (t := t) (w := w) (d := d)
  rw [dequant, Nat.zero_mul, hzero, hlevel, bitsOfUnits, if_pos (Nat.two_pow_pos _)]
  rfl

/-! ## Dequantize, then quantize -/

/-- Multiplying a dequantized level back does not reach the next level: the error is at most half a level. -/
theorem roundUnits_levelUnits_lt (h : legalPair t w) (hq : q ≤ maxc w d) :
    roundUnits t (levelUnits t w d q * maxc w d) 1 < (q + 1) * oneUnits t := by
  have herror := two_mul_distance_levelUnits_le h hq
  have hhalf := oneUnits_eq_two_mul t
  have hpos := oneUnits_pos t
  have hbound : roundUnits t (levelUnits t w d q * maxc w d) 1 ≤ (2 * q + 1) * halfUnits t := by
    refine roundUnits_le Nat.one_pos (representable_mul_halfUnits (two_mul_add_one_lt h hq)) ?_
    unfold distance at herror
    rw [Nat.add_mul, Nat.mul_comm 2, Nat.mul_assoc, ← hhalf]
    omega
  rw [Nat.add_mul, Nat.mul_comm 2, Nat.mul_assoc, ← hhalf] at hbound
  rw [Nat.add_mul]
  omega

/-- At a level that is no power of two, the values below it are a last place away, and the error is less than half of
one. -/
theorem le_roundUnits_levelUnits {k : Nat} (h : legalPair t w) (hlo : 2 ^ k < q) (hhi : q < 2 ^ (k + 1))
    (hq : q ≤ maxc w d) : q * oneUnits t ≤ roundUnits t (levelUnits t w d q * maxc w d) 1 := by
  have herror := two_mul_distance_levelUnits_lt h hlo.le hhi hq
  have hk := (two_pow_le_oneUnits h hlo.le hq).1
  refine le_roundUnits_of_near (p := bias t - 1 + k) (representable_level h hq) ?_ ?_ ?_
  · exact (Nat.pow_dvd_pow 2 (by omega)).mul_left q
  · rw [show fracBits t + (bias t - 1 + k) = k + (bias t - 1 + fracBits t) by omega, pow_add]
    exact Nat.mul_lt_mul_of_pos_right hlo (oneUnits_pos t)
  · unfold distance at herror
    omega

/-- 1 / M repeats after n binary places. The periods that a significand can hold, as the number `c`, reach so far that
c * M is one short of 2^r for an r of at least fracBits + 3. -/
theorem exists_mul_maxc_eq (h : legalPair t w) (d : Dim) :
    ∃ c r, c * maxc w d + 1 = 2 ^ r ∧ c < 2 ^ (fracBits t + 1) ∧ fracBits t + 3 ≤ r ∧ r ≤ 2 * fracBits t := by
  have hwidth := axisBits_le_fracBits (d := d) h
  obtain ⟨m, hlong, hfit⟩ : ∃ m, fracBits t + 3 ≤ axisBits w d * (m + 1) ∧ axisBits w d * m ≤ fracBits t := by
    refine ⟨fracBits t / axisBits w d, ?_, Nat.mul_div_le ..⟩
    obtain ⟨rfl, rfl⟩ | rfl := legalPair_iff.mp h
    · cases d <;> decide
    · cases w <;> cases d <;> decide
  obtain ⟨c, hc⟩ : maxc w d ∣ 2 ^ (axisBits w d * (m + 1)) - 1 := pow_mul 2 _ _ ▸ Nat.sub_one_dvd_pow_sub_one _ _
  have hmul : c * maxc w d + 1 = 2 ^ (axisBits w d * (m + 1)) := by
    rw [Nat.mul_comm, ← hc, Nat.sub_add_cancel Nat.one_le_two_pow]
  refine ⟨c, _, hmul, Nat.lt_of_mul_lt_mul_right (a := maxc w d) ?_, hlong, by rw [Nat.mul_succ]; omega⟩
  have hscale : 2 ^ axisBits w d ≤ 2 * maxc w d := by
    have := maxc_pos w d
    rw [maxc] at this ⊢
    omega
  calc
    c * maxc w d < 2 ^ (axisBits w d * m) * 2 ^ axisBits w d := by rw [← pow_add, ← Nat.mul_succ, ← hmul]; omega
    _ ≤ 2 ^ fracBits t * (2 * maxc w d) := Nat.mul_le_mul (Nat.pow_le_pow_right (by decide) hfit) hscale
    _ = 2 ^ (fracBits t + 1) * maxc w d := by rw [pow_succ, Nat.mul_assoc]

/-- At a power of two the values below it are half a last place away, and the error is less than a quarter of one. -/
theorem le_roundUnits_levelUnits_two_pow {k : Nat} (h : legalPair t w) (hq : 2 ^ k ≤ maxc w d) :
    2 ^ k * oneUnits t ≤ roundUnits t (levelUnits t w d (2 ^ k) * maxc w d) 1 := by
  have hk := (two_pow_le_oneUnits h le_rfl hq).1
  have hbias := fracBits_lt_bias t
  obtain ⟨c, r, hmul, hc, hlo, hhi⟩ := exists_mul_maxc_eq h d
  obtain ⟨e, he⟩ : ∃ e, bias t - 1 + fracBits t + k = e + r := ⟨bias t - 1 + fracBits t + k - r, by omega⟩
  have hlevel : 2 ^ k * oneUnits t = c * 2 ^ e * maxc w d + 2 ^ e := by
    rw [oneUnits, ← pow_add, Nat.add_comm k, he, pow_add, ← hmul]
    ring
  have herror := distance_roundUnits_le (num := 2 ^ k * oneUnits t) (maxc_pos w d) ⟨c, e, hc, rfl⟩
  have hquarter : 2 * 2 ^ e < 2 ^ (bias t - 1 + k - 1) := by
    rw [← pow_succ']
    exact Nat.pow_lt_pow_right (by decide) (by omega)
  refine le_roundUnits_of_near (p := bias t - 1 + k - 1) (representable_level h hq) ?_ ?_ ?_
  · exact (Nat.pow_dvd_pow 2 (by omega)).mul_left _
  · rw [oneUnits, ← pow_add]
    exact Nat.pow_lt_pow_right (by decide) (by omega)
  · rw [← levelUnits] at herror
    unfold distance at herror
    omega

/-- Dequantize, then quantize is the identity on levels (R131). -/
theorem quant_dequant (h : legalPair t w) (hq : q ≤ maxc w d) : quant t w d (dequant t w d q) = q := by
  have hlow : q * oneUnits t ≤ roundUnits t (levelUnits t w d q * maxc w d) 1 := by
    obtain rfl | hpos := eq_or_ne q 0
    · rw [Nat.zero_mul]
      exact Nat.zero_le _
    obtain hpow | hlo := Nat.eq_or_lt_of_le (Nat.log2_self_le hpos)
    · have hlow := le_roundUnits_levelUnits_two_pow h (hpow.trans_le hq)
      rwa [hpow] at hlow
    · exact le_roundUnits_levelUnits h hlo Nat.lt_log2_self hq
  rw [quant_eq_of_realOf (realOf_dequant_level h hq)]
  exact Nat.div_eq_of_lt_le hlow (roundUnits_levelUnits_lt h hq)

/-- A decoded coordinate survives the float round trip (R131). -/
theorem quantCoord_dequant_decAxis (h : legalPair t w) {i : Nat} (hi : i < d.axes) (code : BitVec w.bits) :
    quantCoord t w d (dequant t w d (decAxis w d i code).toNat) = decAxis w d i code := by
  have hmax : (decAxis w d i code).toNat ≤ maxc w d := getLsbD_eq_false_iff_le_maxc.mp fun k hk => by
    rw [getLsbD_decAxis hi, decide_eq_false (Nat.not_lt.mpr hk), Bool.false_and]
  rw [quantCoord, quant_dequant h hmax, BitVec.ofNat_toNat, BitVec.setWidth_eq]

/-! ## Quantize, then dequantize -/

section
variable {n : Nat} (h : legalPair t w) (hq : q ≤ maxc w d)
include h hq

/-- A product that rounds to its level or above lies at most half a level below it. -/
theorem level_le_of_le_roundUnits (hlow : q * oneUnits t ≤ roundUnits t n 1) :
    2 * (q * oneUnits t) ≤ 2 * n + oneUnits t := by
  obtain _ | p := q
  · simp
  by_contra! hlt
  have hhalf := oneUnits_eq_two_mul t
  have hpos := oneUnits_pos t
  have hlevel : (p + 1) * oneUnits t = (2 * p + 1) * halfUnits t + halfUnits t := by rw [hhalf]; ring
  have hbound : roundUnits t n 1 ≤ (2 * p + 1) * halfUnits t :=
    roundUnits_le Nat.one_pos (representable_mul_halfUnits (by have := two_mul_add_one_lt h hq; omega)) (by omega)
  omega

/-- A product that rounds below the next level is half of a last place short of it. -/
theorem add_two_pow_le_of_roundUnits_lt {k : Nat} (hlo : 2 ^ k ≤ q)
    (hnext : roundUnits t n 1 < (q + 1) * oneUnits t) :
    2 * n + 2 ^ (bias t - 1 + k) ≤ 2 * ((q + 1) * oneUnits t) := by
  by_contra! hnear
  refine Nat.not_le.mpr hnext (le_roundUnits_of_near (p := bias t - 1 + k) (representable_next_level h hq) ?_ ?_ ?_)
  · exact (Nat.pow_dvd_pow 2 (by have := (two_pow_le_oneUnits h hlo hq).1; omega)).mul_left (q + 1)
  · rw [show fracBits t + (bias t - 1 + k) = k + (bias t - 1 + fracBits t) by omega, pow_add]
    exact Nat.mul_lt_mul_of_pos_right (Nat.lt_succ_of_le hlo) (oneUnits_pos t)
  · have := Nat.two_pow_pos (bias t - 1 + k)
    omega

/-- A product and the dequantized value of its level, multiplied back, are within one level. -/
theorem distance_levelUnits_le (hlow : q * oneUnits t ≤ roundUnits t n 1)
    (hnext : roundUnits t n 1 < (q + 1) * oneUnits t) : distance n (maxc w d) (levelUnits t w d q) ≤ oneUnits t := by
  have hbelow := level_le_of_le_roundUnits h hq hlow
  have hsucc : (q + 1) * oneUnits t = q * oneUnits t + oneUnits t := Nat.succ_mul ..
  obtain hzero | hpos := eq_or_ne q 0
  · have habove : n < (q + 1) * oneUnits t := by
      by_contra! hge
      exact Nat.not_le.mpr hnext (le_roundUnits Nat.one_pos (representable_next_level h hq) (by rwa [Nat.mul_one]))
    rw [hzero] at hsucc habove ⊢
    rw [levelUnits_zero, distance]
    omega
  · have hlo := Nat.log2_self_le hpos
    have hplace := (two_pow_le_oneUnits h hlo hq).2
    have habove := add_two_pow_le_of_roundUnits_lt h hq hlo hnext
    have herror := two_mul_distance_levelUnits_lt h hlo Nat.lt_log2_self hq
    unfold distance at herror ⊢
    omega

end

/-- The float round trip errs by at most 1/M (R130). -/
theorem dequant_quant_error (h : legalPair t w) (hv : inrange t v = true) :
    distance (unitsOf t v * maxc w d) (maxc w d) (unitsOf t (dequant t w d (quant t w d v))) ≤ oneUnits t := by
  have hq := quant_le_maxc (d := d) h hv
  rw [unitsOf_dequant_level h hq]
  rw [quant_eq_of_inrange hv] at hq ⊢
  exact distance_levelUnits_le h hq (Nat.div_mul_le_self ..)
    ((Nat.div_lt_iff_lt_mul (oneUnits_pos t)).mp (Nat.lt_succ_self _))

/-! ## The special values -/

/-- The range check on a pattern given as a number (R122). -/
theorem inrange_ofNat_iff {n : Nat} (hn : n < 2 ^ floatBits t) :
    inrange t (BitVec.ofNat (floatBits t) n) = true ↔
      n ≤ bias t * 2 ^ fracBits t ∨ n = 2 ^ (fracBits t + expBits t) := by
  rw [inrange_iff_toNat, BitVec.toNat_ofNat, Nat.mod_eq_of_lt hn]

/-- The magnitudes below 2^fracBits units, zero and the positive subnormals, quantize to 0 (R132). -/
theorem quant_ofNat_of_lt (h : legalPair t w) {f : Nat} (hf : f < 2 ^ fracBits t) :
    quant t w d (BitVec.ofNat (floatBits t) f) = 0 := by
  have hreal : realOf t (BitVec.ofNat (floatBits t) f) = .finite false f :=
    realOf_eq_finite_iff.mpr ⟨0, f, by cases t <;> decide, hf, by simp [patternOf], rfl⟩
  have hrep : representable t (2 ^ fracBits t * 2 ^ fracBits t) := representable_mul_pow (by simp [pow_succ]) _
  have hsmall : 2 ^ fracBits t * 2 ^ fracBits t < oneUnits t := by
    have := fracBits_lt_bias t
    rw [oneUnits, ← pow_add]
    exact Nat.pow_lt_pow_right (by decide) (by omega)
  rw [quant_eq_of_realOf hreal]
  refine Nat.div_eq_of_lt ((roundUnits_le Nat.one_pos hrep ?_).trans_lt hsmall)
  rw [Nat.mul_one]
  exact Nat.mul_le_mul hf.le (maxc_lt_two_pow_fracBits h).le

/-- The levels of -0.0, of 1.0 and of the largest value below 1.0 (R132). -/
theorem quant_special (h : legalPair t w) :
    quant t w d (BitVec.ofNat (floatBits t) (2 ^ (fracBits t + expBits t))) = 0 ∧
    quant t w d (BitVec.ofNat (floatBits t) (bias t * 2 ^ fracBits t)) = maxc w d ∧
    quant t w d (BitVec.ofNat (floatBits t) (bias t * 2 ^ fracBits t - 1)) = maxc w d - 1 := by
  obtain ⟨rfl, rfl⟩ | rfl := legalPair_iff.mp h
  · cases d <;> decide +kernel
  · cases w <;> cases d <;> decide +kernel

end Sys2Proof.Machine

namespace Sys2Proof.Proofs

open Sys2Proof.Machine Sys2Proof.Claims

/-- Settles O33: a dequantized level, multiplied back, misses the level by less than half of the distance to the next
representable value below, and by at most half a level above. -/
theorem levelsSurviveTheFloatRoundTrip : Obligations.LevelsSurviveTheFloatRoundTrip := by
  refine ⟨fun t w d q => quant_dequant, ?_⟩
  intro t w code h back
  have hback (d : Dim) (i : Nat) (hi : i < d.axes) : back d i = decAxis w d i code :=
    quantCoord_dequant_decAxis h hi code
  rw [hback .d2 0 (by decide), hback .d2 1 (by decide), hback .d3 0 (by decide), hback .d3 1 (by decide),
    hback .d3 2 (by decide)]
  exact (encodeDecodeRoundTrip w).2.2 code

/-- Settles O29: the product is at most M, which is representable. -/
theorem quantStaysWithinScale : Obligations.QuantStaysWithinScale := by
  intro t w d v h hv
  have hle := quant_le_maxc (d := d) h hv
  have hnat := toNat_quantCoord (d := d) h hv
  exact ⟨Nat.zero_le _, hle, hnat, decide_eq_true (hnat ▸ hle)⟩

/-- Settles O31: by the bounds of both roundings. -/
theorem dequantIsFiniteAndExactAtEnds : Obligations.DequantIsFiniteAndExactAtEnds := by
  refine fun t w d q h hq => ⟨realOf_dequant hq, ?_, ?_, fun hle => ?_,
    fun hexact => roundUnits_one_eq (representable_mul_oneUnits hexact)⟩
  · rintro rfl
    exact dequant_zero
  · rintro rfl
    rw [realOf_dequant_level h le_rfl, levelUnits_maxc]
  · rw [unitsOf_dequant_level h hle]
    exact levelUnits_le hle

/-- Settles O32: a coordinate's product with M lies within one level of the dequantized level, multiplied back. -/
theorem quantizationBound : Obligations.QuantizationBound := by
  intro t w d v h hv back
  have herror := dequant_quant_error (d := d) h hv
  rwa [distance, ← Nat.sub_mul, ← Nat.sub_mul, ← Nat.add_mul, Nat.add_comm] at herror

/-- Settles O30: the range check by pattern, and the level of each special value. -/
theorem specialFloatsQuantize : Obligations.SpecialFloatsQuantize := by
  intro t w d h one sign q ok
  have hone : one = bias t * 2 ^ fracBits t := by
    have hexp : 2 ^ (expBits t - 1) - 1 = bias t := by cases t <;> rfl
    rw [← hexp]
  have hsign : sign = 2 ^ (fracBits t + expBits t) := congrArg (2 ^ ·) (by rw [floatBits_eq, Nat.add_sub_cancel])
  have hok (n : Nat) (hn : n < 2 * sign) : ok n = true ↔ n ≤ one ∨ n = sign := by
    rw [hone, hsign]
    exact inrange_ofNat_iff (by rwa [floatBits_eq, pow_succ', ← hsign])
  have horder : 2 ^ fracBits t ≤ one ∧ one < sign := by
    rw [hone, hsign]
    cases t <;> decide
  obtain ⟨hqsign, hqone, hqbelow⟩ := quant_special (d := d) h
  rw [← hsign] at hqsign
  rw [← hone] at hqone hqbelow
  clear_value one sign
  refine ⟨⟨(hok 0 (by omega)).mpr (by omega), quant_ofNat_of_lt h (Nat.two_pow_pos _)⟩,
    ⟨(hok sign (by omega)).mpr (.inr rfl), hqsign⟩,
    fun f _ hf => ⟨(hok f (by omega)).mpr (by omega), quant_ofNat_of_lt h hf⟩,
    ⟨(hok one (by omega)).mpr (.inl le_rfl), hqone⟩,
    ⟨(hok (one - 1) (by omega)).mpr (by omega), hqbelow⟩,
    fun n hlo hhi => Bool.eq_false_iff.mpr (mt (hok n (by omega)).mp (by omega)),
    fun n hlo hhi => Bool.eq_false_iff.mpr (mt (hok n hhi).mp (by omega))⟩

/-- Settles O24: M is below 2^fracBits in every legal pair. -/
theorem scaleIsExact : Obligations.ScaleIsExact := by
  refine ⟨by decide, fun d => ?_, fun w d => ?_, fun t w d h => roundUnits_maxc h, by decide +kernel⟩
  · exact (maxc_lt_two_pow_fracBits (t := .binary32) (legalPair_iff.mpr (.inl ⟨rfl, rfl⟩))).trans (by decide)
  · exact (maxc_lt_two_pow_fracBits (t := .binary64) (legalPair_iff.mpr (.inr rfl))).trans (by decide)

end Sys2Proof.Proofs
end

section
/-! QNT, DQNT and FENC: the range checks and the float codec on the ports (43_normalizer R124 to R127, R135). -/

namespace Sys2Proof.Machine

open Sys2Proof.Claims

variable {t : FloatType} {w : Width} {d : Dim}

/-! ## Ports -/

theorem inrange_eq_true {a : Word64} (h : inUnit t a) : inrange t (floatOperand t a) = true := h

theorem inrange_eq_false {a : Word64} (h : ¬ inUnit t a) : inrange t (floatOperand t a) = false :=
  Bool.eq_false_iff.mpr h

/-- The low W bits of a port, as the number an integer operand is (R27). -/
theorem low_eq_toNat_zext64 (a : Word64) : low w.bits a = (zext64 (intOperand w a)).toNat := by
  rw [toNat_zext64, intOperand, BitVec.toNat_setWidth, low]

/-- The level of a port is its quantized coordinate, before the cut to W bits (R120). -/
theorem level_eq_ofNat {a : Word64} (h : inUnit t a) :
    level t w d a = BitVec.ofNat 64 (quant t w d (floatOperand t a)) := by
  rw [quant_eq_of_inrange h, level]

/-- Cut to W bits, the level of a port is its quantized coordinate (R120). -/
theorem intOperand_level {a : Word64} (h : inUnit t a) :
    intOperand w (level t w d a) = quantCoord t w d (floatOperand t a) := by
  rw [level_eq_ofNat h, intOperand, quantCoord, BitVec.setWidth_ofNat_of_le (by cases w <;> decide)]

/-- In a legal pair the cut loses nothing (R134). -/
theorem zext64_quantCoord {a : Word64} (hpair : legalPair t w) (h : inUnit t a) :
    zext64 (quantCoord t w d (floatOperand t a)) = level t w d a := by
  rw [level_eq_ofNat h, ← toNat_quantCoord hpair h, zext64, BitVec.ofNat_toNat]

/-! ## The rows of each class -/

section
variable {s : State} (hs : Ready s) {i : Instr}
include hs

/-- A row of class QNT quantizes A behind its range check (R124). -/
theorem quantCase_of_qnt (hcls : i.fields.cls = .qnt) (hpair : legalPair i.fields.t i.fields.w) :
    quantCase s i (encode i) i.fields.t i.fields.w i.fields.d := by
  have hop : operate i.fields s.port.a s.port.b s.port.c = qnt i.fields.t i.fields.w i.fields.d s.port.a := by
    rw [operate, hcls]
  refine ⟨fun ha => exec_eq_accepts_of_ok hs ?_,
    fun ha => violates_of_violation (cond := .floatRange) (idx := .a) hs ?_⟩
  · simp [hop, qnt, inrange_eq_true ha, zext64_quantCoord hpair ha]
  · simp [hop, qnt, inrange_eq_false ha]

/-- A row of class DQNT dequantizes the low W bits of A, with no precondition (R125). -/
theorem dequantCase_of_dqnt (hcls : i.fields.cls = .dqnt) :
    dequantCase s i (encode i) i.fields.t i.fields.w i.fields.d := by
  refine exec_eq_accepts_of_ok hs ?_
  rw [operate, hcls, low_eq_toNat_zext64, ← dequantPort_eq_floatOut]
  rfl

/-- A row of class FENC interleaves two quantized coordinates behind their range checks, A before B (R126, R156). -/
theorem floatEnc2Case_of_fenc (hcls : i.fields.cls = .fenc) (hd : i.fields.d = .d2) :
    floatEnc2Case s i (encode i) i.fields.t i.fields.w (axisBits i.fields.w .d2) := by
  have hop : operate i.fields s.port.a s.port.b s.port.c = fenc2 i.fields.t i.fields.w s.port.a s.port.b := by
    rw [operate, hcls, hd]
  refine ⟨fun ha hb => ⟨_, interleaves_zext64 (holdsAxes_enc2 _ _), exec_eq_accepts_of_ok hs ?_⟩,
    fun ha => violates_of_violation (cond := .floatRange) (idx := .a) hs ?_,
    fun ha hb => violates_of_violation (cond := .floatRange) (idx := .b) hs ?_⟩
  · rw [intOperand_level ha, intOperand_level hb, hop]
    simp [fenc2, inrange_eq_true ha, inrange_eq_true hb]
  · simp [hop, fenc2, inrange_eq_false ha]
  · simp [hop, fenc2, inrange_eq_true ha, inrange_eq_false hb]

/-- A row of class FENC interleaves three quantized coordinates behind their range checks, A, then B, then C (R127,
R156). -/
theorem floatEnc3Case_of_fenc (hcls : i.fields.cls = .fenc) (hd : i.fields.d = .d3) :
    floatEnc3Case s i (encode i) i.fields.t i.fields.w (axisBits i.fields.w .d3) := by
  have hop : operate i.fields s.port.a s.port.b s.port.c =
      fenc3 i.fields.t i.fields.w s.port.a s.port.b s.port.c := by
    rw [operate, hcls, hd]
  refine ⟨fun ha hb hc => ⟨_, interleaves_zext64 (holdsAxes_enc3 _ _ _), exec_eq_accepts_of_ok hs ?_⟩,
    fun ha => violates_of_violation (cond := .floatRange) (idx := .a) hs ?_,
    fun ha hb => violates_of_violation (cond := .floatRange) (idx := .b) hs ?_,
    fun ha hb hc => violates_of_violation (cond := .floatRange) (idx := .c) hs ?_⟩
  · rw [intOperand_level ha, intOperand_level hb, intOperand_level hc, hop]
    simp [fenc3, inrange_eq_true ha, inrange_eq_true hb, inrange_eq_true hc]
  · simp [hop, fenc3, inrange_eq_false ha]
  · simp [hop, fenc3, inrange_eq_true ha, inrange_eq_false hb]
  · simp [hop, fenc3, inrange_eq_true ha, inrange_eq_true hb, inrange_eq_false hc]

end

end Sys2Proof.Machine

namespace Sys2Proof.Proofs

open Sys2Proof.Machine Sys2Proof.Claims

/-- Settles O25: each row quantizes A behind its range check. -/
theorem qntQuantizesOrViolates : Obligations.QntQuantizesOrViolates := by
  intro s hs
  have narrow : legalPair .binary32 .w32 := legalPair_iff.mpr (.inl ⟨rfl, rfl⟩)
  have wide (w : Width) : legalPair .binary64 w := legalPair_iff.mpr (.inr rfl)
  exact ⟨quantCase_of_qnt hs rfl narrow, quantCase_of_qnt hs rfl narrow, quantCase_of_qnt hs rfl (wide _),
    quantCase_of_qnt hs rfl (wide _), quantCase_of_qnt hs rfl (wide _), quantCase_of_qnt hs rfl (wide _)⟩

/-- Settles O26: each row dequantizes A. -/
theorem dqntDequantizes : Obligations.DqntDequantizes :=
  fun _ hs => ⟨dequantCase_of_dqnt hs rfl, dequantCase_of_dqnt hs rfl, dequantCase_of_dqnt hs rfl,
    dequantCase_of_dqnt hs rfl, dequantCase_of_dqnt hs rfl, dequantCase_of_dqnt hs rfl⟩

/-- Settles O27: each row holds the levels of its coordinates behind their range checks. -/
theorem fencEncodesLevelsOrViolates : Obligations.FencEncodesLevelsOrViolates :=
  fun _ hs => ⟨floatEnc2Case_of_fenc hs rfl rfl, floatEnc2Case_of_fenc hs rfl rfl, floatEnc2Case_of_fenc hs rfl rfl,
    floatEnc3Case_of_fenc hs rfl rfl, floatEnc3Case_of_fenc hs rfl rfl, floatEnc3Case_of_fenc hs rfl rfl⟩

end Sys2Proof.Proofs
end

section
/-! What a unit does that cannot accept, what a met contract gives, and how one edge acts on a platform (60_exceptions
R154, R159, R166; 70_reset R176, R181). -/

namespace Sys2Proof.Machine

open Sys2Proof.Claims

variable {s : State}

/-! ## A unit that cannot accept -/

/-- Where `req_ready` = 0, an operation leaves the state as it is (R154; log 10). -/
theorem exec_waits (h : s.reqReady = false) (i : Instr) : exec i s = .next s := by
  rw [exec_eq_perform, State.perform_waits h]

/-- Where `req_ready` = 0, so does the request channel (R176). -/
theorem requestPhase_waits (h : s.reqReady = false) : s.requestPhase = .next s := by
  obtain ⟨-, he⟩ | ⟨-, hr, -⟩ | ⟨-, hr, -⟩ := requestPhase_cases s
  · exact he
  · cases h.symm.trans hr
  · cases h.symm.trans hr

/-- Where `req_ready` = 0, an edge with rst = 0 is its end alone (R176, R178). -/
theorem step_waits (hrst : s.port.rst = false) (h : s.reqReady = false) : step s = .next (finishEdge s s) := by
  simp [step, hrst, requestPhase_waits h]

namespace State

/-- A FAULTED unit is not ready (R154, R176). -/
theorem reqReady_of_faulted (h : s.faulted = true) : s.reqReady = false := by simp [reqReady, h]

@[simp] theorem outputs_rspValid (s : State) : s.outputs.rspValid = s.rspValid := by
  unfold outputs rspValid
  cases s.port.rst <;> cases s.available <;> rfl

/-- An empty Q offers no response (R178). -/
theorem rspValid_of_empty (h : s.queue = []) : s.rspValid = false := by simp [rspValid, available, h]

@[simp] theorem finishEdge_accepted (s u : State) : (finishEdge s u).accepted = u.accepted := by
  unfold finishEdge; split <;> simp

/-- The exchanges delivered and in flight, oldest first (R24, R34). -/
def exchanges (s : State) : List Exchange := s.answered ++ s.queue.map exchange

@[simp] theorem exchanges_tick (s : State) : s.tick.exchanges = s.exchanges := by
  simp [exchanges, Function.comp_def, exchange]

/-- A delivery moves an exchange from Q to the delivered ones (R178). -/
@[simp] theorem exchanges_deliver (s : State) : s.deliver.exchanges = s.exchanges := by
  cases hq : s.queue with
  | nil => rw [deliver_of_empty s hq]
  | cons e rest => simp [exchanges, deliver_answered s hq, hq, exchange]

@[simp] theorem exchanges_finishEdge (s u : State) : (finishEdge s u).exchanges = u.exchanges := by
  unfold finishEdge; split <;> simp

end State

/-- An available head that the host takes is delivered at the end of the edge (R178). -/
theorem finishEdge_answered_of_head {e : Entry} {rest : List Entry} (hrst : s.port.rst = false)
    (hq : s.queue = e :: rest) (hw : e.wait = 0) (hy : s.port.rspReady = true) :
    (finishEdge s s).answered = s.answered ++ [exchange e] := by
  have hd : s.delivers = true := (State.delivers_iff hrst).mpr ⟨e, rest, hq, hw, hy⟩
  simp [finishEdge, hd, State.deliver_answered s hq, exchange]

/-! ## A met contract -/

/-- An operation whose operands meet its preconditions has results (R150, R159). -/
theorem operate_ok_of_meetsContract {q : Request} {i : Instr} (hd : decode q.op = .ok i)
    (h : q.meetsContract = true) : ∃ r0 r1 r2, operate i.fields q.a q.b q.c = .ok r0 r1 r2 := by
  cases hr : operate i.fields q.a q.b q.c with
  | ok r0 r1 r2 => exact ⟨r0, r1, r2, rfl⟩
  | violation cond idx => cases h.symm.trans (meetsContract_of_violation hd hr)

/-- Every edge answers a next state: no step stops (R159). -/
theorem exists_step (s : State) : ∃ t, step s = .next t := by
  obtain ⟨-, h⟩ | ⟨-, u, -, h⟩ := step_cases s
  · exact ⟨_, h⟩
  · exact ⟨_, h⟩

/-! ## A platform -/

/-- An edge of unit `k` sets that place of the platform's list of units to the unit's own next state (R166; log 14). -/
theorem Platform.edge_units {p : Platform} {k : Nat} {t : State} (hk : p.units[k]? = some s) (hs : step s = .next t) :
    (p.edge k).units = p.units.set k t := by
  simp [Platform.edge, hk, hs]

end Sys2Proof.Machine

namespace Sys2Proof.Proofs

open Sys2Proof.Machine Sys2Proof.Claims

/-- Settles O41: each of the three reasons makes `req_ready` 0. -/
theorem operationsWaitWhenNotReady : Obligations.OperationsWaitWhenNotReady := by
  intro i s h
  refine exec_waits (Bool.eq_false_iff.mpr fun hready => ?_) i
  obtain ⟨hrst, hfaulted, hroom⟩ := State.reqReady_iff.mp hready
  obtain h | h | h := h
  · cases hrst.symm.trans h
  · cases hfaulted.symm.trans h
  · exact Nat.not_lt.mpr h hroom

/-- Settles O38: FAULTED makes `req_ready` 0, so an edge without reset is the response channel alone, which moves
entries of Q to the delivered ones. -/
theorem faultedUnitAcceptsNothing : Obligations.FaultedUnitAcceptsNothing := by
  intro s hf
  have hr : s.reqReady = false := State.reqReady_of_faulted hf
  refine ⟨by rw [State.outputs_reqReady, hr], exec_waits hr, fun hq => ?_, fun hrst => ?_⟩
  · rw [State.outputs_rspValid, State.rspValid_of_empty hq]
  · exact ⟨_, step_waits hrst hr, by simp [hf], by simp, by simp, State.exchanges_finishEdge s s,
      fun _ _ => finishEdge_answered_of_head hrst⟩

/-- Settles O37: a met contract leaves the operation its results alone, and every edge answers a next state. -/
theorem contractMetMeansOk : Obligations.ContractMetMeansOk := by
  refine ⟨fun i s hs hmet => ?_, exists_step⟩
  obtain ⟨r0, r1, r2, hok⟩ := operate_ok_of_meetsContract (q := s.request (encode i)) (decode_encode i) hmet
  exact ⟨r0, r1, r2, exec_eq_accepts_of_ok hs hok⟩

/-- Settles O46: the word of a row decodes to that row, so `respond` answers it with the row's own operation. -/
theorem execAcceptsAsRespondSays : Obligations.ExecAcceptsAsRespondSays := by
  intro i s hs
  have hexec := (exec_eq_perform i s).trans (State.perform_ready (State.reqReady_iff.mpr hs) i _)
  exact ⟨_, Config.anyResult s.accepted, hexec, txn_answer (q := s.request (encode i)) (decode_encode i)⟩

/-- Settles O58: an edge sets one place of the list of instances. -/
theorem instancesAreIndependent : Obligations.InstancesAreIndependent := by
  intro p k s hk
  obtain ⟨t, hs⟩ := exists_step s
  obtain ⟨hlt, -⟩ := List.getElem?_eq_some_iff.mp hk
  refine ⟨t, hs, ?_⟩
  rw [Platform.edge_units hk hs]
  exact ⟨List.getElem?_set_self hlt, fun j hj => List.getElem?_set_ne hj.symm, List.length_set⟩

end Sys2Proof.Proofs
end

section
/-! A host that keeps taking responses gets every response of Q (70_reset R178 to R180, R185). -/

namespace Sys2Proof.Machine

open Sys2Proof.Claims

variable {s : State}

/-- The first edge of a host that takes responses, and the edges after it, whatever the unit did. -/
theorem takesResponses_succ {n : Nat} (h : takesResponses (n + 1) s) :
    s.port.rst = false ∧ s.port.rspReady = true ∧
      ∀ t : State, t.port = nextPort s.script → t.script = s.script.tail → takesResponses n t := by
  obtain ⟨hlen, hall⟩ := h
  obtain ⟨hrst, hy⟩ := hall s.port (by simp)
  refine ⟨hrst, hy, fun t hport hscript => ?_⟩
  unfold takesResponses
  rw [hport, hscript]
  cases hs : s.script with
  | nil =>
    obtain rfl : n = 0 := by simpa [hs] using hlen
    simp
  | cons p ps =>
    rw [hs] at hlen hall
    exact ⟨Nat.le_of_succ_le_succ hlen, fun q hq => hall q (List.mem_cons_of_mem _ hq)⟩

/-- As an edge passes, every entry of Q comes an edge nearer (R180). -/
theorem State.tick_queue_nearer (s : State) : s.tick.queue = s.queue.map nearer := rfl

/-- What an edge with rst = 0 does to Q: an available head that the host takes is delivered, every entry that stays is
an edge nearer, and requests join at the tail alone (R24, R178, R180). -/
theorem step_queue_cases (hrst : s.port.rst = false) :
    ∃ t added, step s = .next t ∧ t.port = nextPort s.script ∧ t.script = s.script.tail ∧
      ((∃ e rest, s.queue = e :: rest ∧ e.wait = 0 ∧ s.port.rspReady = true ∧
          t.answered = s.answered ++ [exchange e] ∧ t.queue = rest.map nearer ++ added) ∨
        ((∀ e rest, s.queue = e :: rest → ¬ (e.wait = 0 ∧ s.port.rspReady = true)) ∧
          t.answered = s.answered ∧ t.queue = s.queue.map nearer ++ added)) := by
  obtain ⟨hrst', -⟩ | ⟨-, u, hu, hs⟩ := step_cases s
  · cases hrst.symm.trans hrst'
  obtain ⟨-, hscript⟩ := State.requestPhase_build_script hu
  obtain ⟨hans, added, hqueue⟩ := requestPhase_answered_queue hu
  refine ⟨_, added.map nearer, hs, by simp [hscript], by simp [hscript], ?_⟩
  obtain ⟨e, rest, hq, hw, hy, hf⟩ | ⟨hno, hf⟩ := finishEdge_cases s u hrst <;> rw [hf]
  · have hhead : u.queue = e :: (rest ++ added) := by rw [hqueue, hq]; rfl
    exact .inl ⟨e, rest, hq, hw, hy, by simp [State.deliver_answered u hhead, hans, exchange],
      by rw [State.tick_queue_nearer, State.deliver_queue, hhead, List.tail_cons, List.map_append]⟩
  · exact .inr ⟨hno, hans, by rw [State.tick_queue_nearer, hqueue, List.map_append]⟩

/-- An entry an edge on has an edge less to wait (R180). -/
theorem wait_le_of_mem_map_nearer {es : List Entry} {B : Nat} (h : ∀ e ∈ es, e.wait ≤ B) :
    ∀ e ∈ es.map nearer, e.wait ≤ B - 1 := by
  intro e he
  obtain ⟨e', he', rfl⟩ := List.mem_map.mp he
  exact Nat.sub_le_sub_right (h e' he') 1

@[simp] theorem exchange_nearer (e : Entry) : exchange (nearer e) = exchange e := rfl

/-- The first entries of Q are answered in order, once the host has taken responses for as many edges as they wait at
most, and one more for each of them (R179, R185). -/
theorem run_answers_prefix {n B : Nat} {pre post : List Entry} (hq : s.queue = pre ++ post)
    (hwait : ∀ e ∈ pre, e.wait ≤ B) (hn : B + pre.length ≤ n) (htakes : takesResponses n s) :
    ∃ t more, core.run n s = .next t ∧ t.answered = s.answered ++ pre.map exchange ++ more := by
  induction n generalizing s B pre post with
  | zero =>
    obtain rfl : pre = [] := List.eq_nil_of_length_eq_zero (by omega)
    exact ⟨s, [], rfl, by simp⟩
  | succ n ih =>
    obtain ⟨hrst, hy, hrest⟩ := takesResponses_succ htakes
    obtain ⟨t, added, hs, hport, hscript, hcases⟩ := step_queue_cases hrst
    have ht := hrest t hport hscript
    rw [core_run_succ n hs]
    obtain ⟨e, rest, hhead, -, -, hans, hqueue⟩ | ⟨hno, hans, hqueue⟩ := hcases
    · cases pre with
      | nil =>
        obtain ⟨v, more, hv, hva⟩ := ih (B := 0) (pre := []) (post := t.queue) rfl (by simp) (Nat.zero_le n) ht
        exact ⟨v, exchange e :: more, hv, by simp [hva, hans]⟩
      | cons e' pre =>
        obtain ⟨rfl, rfl⟩ := List.cons.inj (hhead.symm.trans hq)
        have hlen : B - 1 + (pre.map nearer).length ≤ n := by
          rw [List.length_cons] at hn
          rw [List.length_map]
          omega
        obtain ⟨v, more, hv, hva⟩ := ih (post := post.map nearer ++ added) (by simp [hqueue])
          (wait_le_of_mem_map_nearer fun x hx => hwait x (List.mem_cons_of_mem _ hx)) hlen ht
        exact ⟨v, more, hv, by simp [hva, hans]⟩
    · have hlen : B - 1 + (pre.map nearer).length ≤ n := by
        rw [List.length_map]
        cases pre with
        | nil => rw [List.length_nil] at hn ⊢; omega
        | cons e pre =>
          have hlate : e.wait ≠ 0 := fun hw => hno e _ hq ⟨hw, hy⟩
          have := hwait e List.mem_cons_self
          omega
      obtain ⟨v, more, hv, hva⟩ := ih (post := post.map nearer ++ added) (by simp [hqueue, hq])
        (wait_le_of_mem_map_nearer hwait) hlen ht
      exact ⟨v, more, hv, by simp [hva, hans]⟩

end Sys2Proof.Machine

namespace Sys2Proof.Proofs

open Sys2Proof.Machine Sys2Proof.Claims

/-- Settles O55: all of Q is the first entries of Q. -/
theorem everyQueuedResponseIsDelivered : Obligations.EveryQueuedResponseIsDelivered :=
  fun _ _ hwait htakes => run_answers_prefix (List.append_nil _).symm hwait le_rfl htakes

end Sys2Proof.Proofs
end

section
/-! A reset edge and the cycles on either side of it, and the edges at which the host waits (60_exceptions R166;
70_reset R170 to R178, R186). -/

namespace Sys2Proof.Machine

open Sys2Proof.Claims

variable {s u : State}

/-! ## An edge by its parts -/

/-- A reset edge is the reset and the passing of the edge, whatever the two channels offer (R171, R186). -/
theorem step_of_reset (h : s.port.rst = true) : step s = .next s.resetEdge.tick := by simp [step, h]

/-- With rst = 0, an edge is the request channel and then the end of the edge (R176, R178). -/
theorem step_of_requestPhase (hrst : s.port.rst = false) (hu : s.requestPhase = .next u) :
    step s = .next (finishEdge s u) := by
  simp [step, hrst, hu]

/-- A legal word that is offered runs its operation (R176). -/
theorem requestPhase_of_legal {i : Instr} (hv : s.port.reqValid = true) (hd : decode s.port.op = .ok i) :
    s.requestPhase = exec i s := by
  simp [State.requestPhase, State.runRequest, hv, hd]

/-- With no request offered, the request channel does nothing (R176). -/
theorem requestPhase_of_no_request (hv : s.port.reqValid = false) : s.requestPhase = .next s := by
  simp [State.requestPhase, hv]

/-- Every operation answers a next state. -/
theorem exists_exec (i : Instr) (s : State) : ∃ t, exec i s = .next t := by
  obtain ⟨-, h⟩ | ⟨-, h⟩ := exec_cases i s <;> exact ⟨_, h⟩

/-! ## The outputs -/

namespace State

@[simp] theorem outputs_faulted (s : State) : s.outputs.faulted = s.faulted := by unfold outputs; split <;> rfl
@[simp] theorem outputs_diag (s : State) : s.outputs.diag = s.diag := by unfold outputs; split <;> rfl

/-- In a cycle with rst = 1 the unit is not ready (R172). -/
theorem reqReady_of_reset (h : s.port.rst = true) : s.reqReady = false := by simp [reqReady, h]

/-- In a cycle with rst = 1 no response is offered (R172). -/
theorem rspValid_of_reset (h : s.port.rst = true) : s.rspValid = false := by simp [rspValid, h]

/-- The state after a reset edge is ready as soon as rst = 0: Q is empty, and QDEPTH is at least 1 (R10, R173). -/
theorem ready_after_reset (h : s.resetEdge.tick.port.rst = false) : Ready s.resetEdge.tick :=
  ⟨h, rfl, Nat.succ_pos _⟩

end State

/-- An edge of unit `k` leaves every other unit of the platform (R166; log 14). -/
theorem Platform.edge_units_ne (p : Platform) {j k : Nat} (h : j ≠ k) : (p.edge k).units[j]? = p.units[j]? := by
  cases hk : p.units[k]? with
  | none => simp [Platform.edge, hk]
  | some s =>
    obtain ⟨t, hs⟩ := exists_step s
    rw [Platform.edge_units hk hs, List.getElem?_set_ne h.symm]

end Sys2Proof.Machine

namespace Sys2Proof.Proofs

open Sys2Proof.Machine Sys2Proof.Claims

/-- Settles O44: the request channel is `exec` of the decoded operation, or nothing, and the end of the edge delivers
what was available before it. -/
theorem stepRunsTheOfferedRequest : Obligations.StepRunsTheOfferedRequest := by
  intro s hrst after
  have hend : ∀ u, finishEdge s u = after u := by
    intro u
    obtain ⟨e, rest, hq, hw, hy, hf⟩ | ⟨hno, hf⟩ := finishEdge_cases s u hrst
    · simp [after, hq, hw, hy, hf]
    · simp only [after]
      split
      next => exact hf
      next e rest hq => rw [if_neg (hno e rest hq), hf]
  refine ⟨fun i hv hd => ?_, fun hv => ?_⟩
  · obtain ⟨t, ht⟩ := exists_exec i s
    exact ⟨t, ht, by rw [← hend, step_of_requestPhase hrst ((requestPhase_of_legal hv hd).trans ht)]⟩
  · rw [← hend, step_of_requestPhase hrst (requestPhase_of_no_request hv)]

/-- Settles O47: a reset edge is `resetEdge` alone, and an empty Q offers no response. -/
theorem resetEdgeClearsTheUnit : Obligations.ResetEdgeClearsTheUnit := by
  refine ⟨fun s hrst => ⟨_, step_of_reset hrst, rfl, rfl, rfl, rfl, rfl, ?_, rfl⟩, fun p _ _ => p.edge_units_ne⟩
  rw [State.outputs_rspValid, State.rspValid_of_empty rfl]

/-- Settles O48: rst = 1 holds both outputs at 0, and a reset edge runs neither channel. -/
theorem resetWinsOverBothHandshakes : Obligations.ResetWinsOverBothHandshakes := by
  intro s hrst
  refine ⟨?_, ?_, _, step_of_reset hrst, rfl, rfl, rfl, rfl, ?_, ?_⟩
  · rw [State.outputs_reqReady, State.reqReady_of_reset hrst]
  · rw [State.outputs_rspValid, State.rspValid_of_reset hrst]
  · rw [State.outputs_faulted, State.tick_faulted, State.resetEdge_faulted]
  · rw [State.outputs_diag, State.tick_diag, State.resetEdge_diag]

/-- Settles O49: the empty Q has room in every build, so each operation is accepted as its only entry. -/
theorem readyInTheFirstCycleAfterReset : Obligations.ReadyInTheFirstCycleAfterReset := by
  intro s t hrst hs ht
  cases (step_of_reset hrst).symm.trans hs
  have hready : s.resetEdge.tick.reqReady = true := State.reqReady_iff.mpr (State.ready_after_reset ht)
  exact ⟨by rw [State.outputs_reqReady, hready],
    fun i => ⟨_, _, exec_eq_accept hready i, State.accept_queue .., rfl⟩⟩

/-- Settles O56: the edge accepts nothing and moves the wires to the host's next values, which the duty of R177 speaks
of. -/
theorem heldRequestStaysOffered : Obligations.HeldRequestStaysOffered := by
  intro s t hs hhost hrst hv hr
  rw [State.outputs_reqReady] at hr
  cases (step_waits hrst hr).symm.trans hs
  rw [State.finishEdge_port]
  exact ⟨State.finishEdge_accepted s s, hhost hrst hv hr⟩

end Sys2Proof.Proofs
end

section
/-! The order of the responses, and the edges until each is available (70_reset R171, R176 to R180). -/

namespace Sys2Proof.Machine

open Sys2Proof.Claims

variable {s u : State}

namespace State

@[simp] theorem finishEdge_dropped (s u : State) : (finishEdge s u).dropped = u.dropped := by
  unfold finishEdge; split <;> simp

@[simp] theorem exchanges_accept (s : State) (q : Request) (r : Response) :
    (s.accept q r).exchanges = s.exchanges ++ [⟨q, r⟩] := by
  simp [exchanges, exchange]

/-- The request channel drops and delivers nothing, and the request it accepts, if any, is the last exchange
(R176, R179). -/
theorem requestPhase_exchanges (h : s.requestPhase = .next u) :
    u.dropped = s.dropped ∧
      ∃ new : List Exchange, new.length ≤ 1 ∧ u.accepted = s.accepted + new.length ∧
        u.exchanges = s.exchanges ++ new := by
  obtain ⟨-, rfl⟩ | ⟨-, -, any, rfl⟩ := requestPhase_cases_accept h
  · exact ⟨rfl, [], by simp⟩
  · exact ⟨accept_dropped .., [_], le_rfl, accept_accepted .., exchanges_accept ..⟩

/-- The entries that Q keeps over an edge with rst = 0, all but a head that is available and taken, each an edge nearer
to being available (R178, R180). -/
def keeps (s : State) : List Entry :=
  match s.queue with
  | [] => []
  | h :: rest => if h.wait = 0 ∧ s.port.rspReady = true then rest.map nearer else (h :: rest).map nearer

/-- After an edge Q holds what it kept, and then what the request channel added (R24, R178). -/
theorem finishEdge_queue (hrst : s.port.rst = false) {added : List Entry} (hu : u.queue = s.queue ++ added) :
    (finishEdge s u).queue = s.keeps ++ added.map nearer := by
  obtain ⟨e, rest, hq, hw, hy, hf⟩ | ⟨hno, hf⟩ := finishEdge_cases s u hrst <;> rw [hf, tick_queue_nearer]
  · simp [keeps, hu, hq, hw, hy]
  · have hkeeps : s.keeps = s.queue.map nearer := by
      cases hq : s.queue with
      | nil => simp [keeps, hq]
      | cons e rest => simp only [keeps, hq, if_neg (hno e rest hq)]
    rw [hu, List.map_append, hkeeps]

/-- A head with edges left to wait is not offered (R178). -/
theorem rspValid_of_head_waiting {e : Entry} {rest : List Entry} (hq : s.queue = e :: rest) (hw : 0 < e.wait) :
    s.rspValid = false := by
  simp [rspValid, available, hq, hw.ne']

end State

/-- What an edge with rst = 0 leaves in Q: what it kept, and the request that was accepted, which has LATENCY - 1 edges
and the free delay left (R176, R180). -/
theorem step_queue_keeps (hrst : s.port.rst = false) :
    ∃ t new, step s = .next t ∧ t.queue = s.keeps ++ new ∧
      (Ready s ∧ s.port.reqValid = true → ∃ rsp, new =
        [⟨s.request s.port.op, rsp, s.build.latency - 1 + (Config.responseSlack s.accepted).val⟩]) ∧
      (¬ (Ready s ∧ s.port.reqValid = true) → new = []) := by
  obtain ⟨hrst', -⟩ | ⟨-, u, hu, hs⟩ := step_cases s
  · cases hrst.symm.trans hrst'
  obtain ⟨hno, rfl⟩ | ⟨hv, hr, any, rfl⟩ := State.requestPhase_cases_accept hu
  · have hidle : ¬ (Ready u ∧ u.port.reqValid = true) := by
      rintro ⟨hready, hv⟩
      simp [hv, State.reqReady_iff.mpr hready] at hno
    exact ⟨_, [], hs, State.finishEdge_queue hrst (List.append_nil _).symm, fun h => absurd h hidle, fun _ => rfl⟩
  · refine ⟨_, _, hs, State.finishEdge_queue hrst (State.accept_queue ..),
      fun _ => ⟨respond s.build.contractMode any (s.request s.port.op), ?_⟩,
      fun h => absurd ⟨State.reqReady_iff.mp hr, hv⟩ h⟩
    simp [nearer, Build.latency]

/-- An edge without reset delivers no entry of Q that has edges left to wait: the entry comes an edge nearer, and only
entries before it can be delivered (R179, R180). -/
theorem step_keeps_waiting_entry {pre post : List Entry} {e : Entry} (hrst : s.port.rst = false)
    (hq : s.queue = pre ++ e :: post) (hw : 0 < e.wait) :
    ∃ t pre' post', step s = .next t ∧ t.port = nextPort s.script ∧ t.script = s.script.tail ∧
      t.answered ++ pre'.map exchange = s.answered ++ pre.map exchange ∧ t.queue = pre' ++ nearer e :: post' := by
  obtain ⟨t, added, hs, hport, hscript, hcases⟩ := step_queue_cases hrst
  obtain ⟨h, rest, hhead, hw', -, hans, hqueue⟩ | ⟨-, hans, hqueue⟩ := hcases
  · cases pre with
    | nil =>
      obtain ⟨rfl, -⟩ := List.cons.inj (hhead.symm.trans hq)
      exact absurd hw' hw.ne'
    | cons h' pre =>
      obtain ⟨rfl, rfl⟩ := List.cons.inj (hhead.symm.trans hq)
      exact ⟨t, pre.map nearer, post.map nearer ++ added, hs, hport, hscript, by simp [hans], by simp [hqueue]⟩
  · exact ⟨t, pre.map nearer, post.map nearer ++ added, hs, hport, hscript, by simp [hans], by simp [hqueue, hq]⟩

/-- The wires of the edges after the first: those of the script, and idle ones after its end (log 2). -/
theorem mem_later_wires {p q : Port} {ports : List Port} {k : Nat} (h : q ∈ (nextPort ports :: ports.tail).take k) :
    q ∈ (p :: ports).take (k + 1) ∨ q = Port.idle := by
  cases ports with
  | nil => exact .inr (List.mem_singleton.mp (List.mem_of_mem_take h))
  | cons p' ports => exact .inl (List.mem_cons_of_mem p h)

/-- Over `k` edges without reset, an entry of Q with `k` edges or more to wait stays in Q, `k` edges nearer, and entries
before it alone are delivered (R179, R180). -/
theorem run_keeps_waiting_entry {k : Nat} {pre post : List Entry} {e : Entry} (hq : s.queue = pre ++ e :: post)
    (hk : k ≤ e.wait) (hrst : ∀ p ∈ (s.port :: s.script).take k, p.rst = false) :
    ∃ t pre' post', core.run k s = .next t ∧ t.answered ++ pre'.map exchange = s.answered ++ pre.map exchange ∧
      t.queue = pre' ++ { e with wait := e.wait - k } :: post' := by
  induction k generalizing s pre e post with
  | zero => exact ⟨s, pre, post, rfl, rfl, hq⟩
  | succ k ih =>
    obtain ⟨t, pre', post', hs, hport, hscript, hans, hqueue⟩ :=
      step_keeps_waiting_entry (hrst s.port (by simp)) hq (Nat.zero_lt_of_lt hk)
    have hlater : ∀ p ∈ (t.port :: t.script).take k, p.rst = false := by
      intro p hp
      rw [hport, hscript] at hp
      obtain hp | rfl := mem_later_wires hp
      · exact hrst p hp
      · rfl
    obtain ⟨v, pre'', post'', hv, hvans, hvqueue⟩ := ih hqueue (Nat.le_sub_one_of_lt hk) hlater
    refine ⟨v, pre'', post'', (core_run_succ k hs).trans hv, hvans.trans hans, ?_⟩
    rw [hvqueue, Nat.add_comm k 1, ← Nat.sub_sub]
    rfl

end Sys2Proof.Machine

namespace Sys2Proof.Proofs

open Sys2Proof.Machine Sys2Proof.Claims

/-- Settles O51: the request channel adds at most one exchange at the end, and the end of the edge moves at most the
head of Q to the delivered ones; a reset edge is `resetEdge` alone. -/
theorem responsesLeaveInAcceptanceOrder : Obligations.ResponsesLeaveInAcceptanceOrder := by
  intro s
  obtain ⟨hrst, hs⟩ | ⟨hrst, u, hu, hs⟩ := step_cases s
  · exact ⟨_, hs, by simp [hrst], fun _ => ⟨rfl, rfl, rfl, rfl⟩⟩
  obtain ⟨hdropped, new, hlen, hacc, hex⟩ := State.requestPhase_exchanges hu
  refine ⟨_, hs, fun _ => ⟨?dropped, ⟨new, hlen, ?accepted, ?exchanges⟩, ?delivered⟩, by simp [hrst]⟩
  case dropped => rw [State.finishEdge_dropped, hdropped]
  case accepted => rw [State.finishEdge_accepted, hacc]
  case exchanges => exact (State.exchanges_finishEdge s u).trans hex
  case delivered =>
    obtain ⟨t, added, hs', -, -, hcases⟩ := step_queue_cases hrst
    cases hs.symm.trans hs'
    obtain ⟨e, rest, hq, -, -, hans, -⟩ | ⟨-, hans, -⟩ := hcases
    · exact .inr ⟨e, rest, hq, hans⟩
    · exact .inl hans

/-- Settles O53: what Q keeps and what joins it at an edge, a head that still waits, and an entry over its wait. -/
theorem noResponseBeforeLatency : Obligations.NoResponseBeforeLatency := by
  refine ⟨fun s hrst => ?_, fun s e rest hq hw => ?_, fun s k pre post e => run_keeps_waiting_entry⟩
  · obtain ⟨t, new, hs, hqueue, hadds, hnone⟩ := step_queue_keeps hrst
    refine ⟨t, new, hs, hqueue, fun h => ?_, hnone⟩
    obtain ⟨rsp, rfl⟩ := hadds h
    exact ⟨_, rfl, rfl, Nat.le_add_right .., Nat.add_le_add_left (Fin.is_le _) _⟩
  · rw [State.outputs_rspValid, State.rspValid_of_head_waiting hq hw]

end Sys2Proof.Proofs
end

section
/-! The head response is delivered once it is available and the host takes it, and a full Q has room again (70_reset
R178, R180, R185). -/

namespace Sys2Proof.Machine

open Sys2Proof.Claims

variable {s : State}

/-- A full Q makes `req_ready` 0 (R176). -/
theorem State.reqReady_of_full (h : s.queue.length = s.build.qdepth) : s.reqReady = false :=
  Bool.eq_false_iff.mpr fun hready =>
    have ⟨_, _, hroom⟩ := State.reqReady_iff.mp hready
    hroom.ne h

/-- An edge with rst = 0 at a full Q leaves FAULTED and the build, and of Q what it keeps (R176, R178). -/
theorem step_of_full {t : State} (hrst : s.port.rst = false) (hfull : s.queue.length = s.build.qdepth)
    (hs : step s = .next t) : t.faulted = s.faulted ∧ t.build = s.build ∧ t.queue = s.keeps := by
  cases (step_waits hrst (State.reqReady_of_full hfull)).symm.trans hs
  refine ⟨State.finishEdge_faulted s s, State.finishEdge_build s s, ?_⟩
  rw [State.finishEdge_queue hrst (List.append_nil _).symm, List.map_nil, List.append_nil]

/-- An edge at which the host takes an available head delivers it, and makes room in a full Q (R178). -/
theorem step_of_head_taken {e : Entry} {rest : List Entry} (hrst : s.port.rst = false) (hy : s.port.rspReady = true)
    (hq : s.queue = e :: rest) (hw : e.wait = 0) :
    ∃ t, step s = .next t ∧ t.answered = s.answered ++ [exchange e] ∧
      (s.queue.length = s.build.qdepth → t.queue.length < t.build.qdepth ∧ t.faulted = s.faulted) := by
  obtain ⟨t, added, hs, -, -, ⟨e', rest', hq', -, -, hans, -⟩ | ⟨hno, -⟩⟩ := step_queue_cases hrst
  · obtain ⟨rfl, -⟩ := List.cons.inj (hq.symm.trans hq')
    refine ⟨t, hs, hans, fun hfull => ?_⟩
    obtain ⟨hf, hb, hqueue⟩ := step_of_full hrst hfull hs
    have hkeeps : s.keeps = rest.map nearer := by simp [State.keeps, hq, hw, hy]
    refine ⟨?_, hf⟩
    rw [hqueue, hkeeps, hb, ← hfull, hq, List.length_map, List.length_cons]
    exact Nat.lt_succ_self _
  · exact absurd ⟨hw, hy⟩ (hno e rest hq)

/-- An edge without reset at which the head still waits delivers nothing, and leaves a full Q full (R176, R178). -/
theorem step_of_head_waiting {e : Entry} {rest : List Entry} (hrst : s.port.rst = false)
    (hq : s.queue = e :: rest) (hw : 0 < e.wait) :
    ∃ t rest', step s = .next t ∧ t.port = nextPort s.script ∧ t.script = s.script.tail ∧
      t.answered = s.answered ∧ t.queue = nearer e :: rest' ∧
      (s.queue.length = s.build.qdepth → t.queue.length = t.build.qdepth ∧ t.faulted = s.faulted) := by
  obtain ⟨t, added, hs, hport, hscript, ⟨e', rest', hq', hw', -⟩ | ⟨-, hans, hqueue⟩⟩ := step_queue_cases hrst
  · obtain ⟨rfl, -⟩ := List.cons.inj (hq.symm.trans hq')
    exact absurd hw' hw.ne'
  · refine ⟨t, rest.map nearer ++ added, hs, hport, hscript, hans, by simp [hqueue, hq], fun hfull => ?_⟩
    obtain ⟨hf, hb, hkept⟩ := step_of_full hrst hfull hs
    have hkeeps : s.keeps = s.queue.map nearer := by simp [State.keeps, hq, hw.ne']
    exact ⟨by rw [hkept, hkeeps, List.length_map, hfull, hb], hf⟩

/-- The head of Q is delivered, and nothing else, once the host has taken responses for the edges it waits and one more;
a full Q then has room, and FAULTED is as before (R178, R180, R185). -/
theorem run_delivers_head {n : Nat} {e : Entry} {rest : List Entry} (hq : s.queue = e :: rest) (hn : e.wait = n)
    (htakes : takesResponses (n + 1) s) :
    ∃ t, core.run (n + 1) s = .next t ∧ t.answered = s.answered ++ [exchange e] ∧
      (s.queue.length = s.build.qdepth → t.queue.length < t.build.qdepth ∧ t.faulted = s.faulted) := by
  induction n generalizing s e rest with
  | zero =>
    obtain ⟨hrst, hy, -⟩ := takesResponses_succ htakes
    obtain ⟨t, hs, hdelivered⟩ := step_of_head_taken hrst hy hq hn
    exact ⟨t, core_run_succ 0 hs, hdelivered⟩
  | succ n ih =>
    obtain ⟨hrst, -, hrest⟩ := takesResponses_succ htakes
    obtain ⟨t, rest', hs, hport, hscript, hans, hqueue, hfull⟩ := step_of_head_waiting hrst hq (by omega)
    obtain ⟨v, hv, hvans, hvroom⟩ := ih hqueue (by simp [nearer, hn]) (hrest t hport hscript)
    refine ⟨v, (core_run_succ _ hs).trans hv, by rw [hvans, hans, exchange_nearer], fun h => ?_⟩
    obtain ⟨hfull', hf⟩ := hfull h
    obtain ⟨hroom, hvf⟩ := hvroom hfull'
    exact ⟨hroom, hvf.trans hf⟩

end Sys2Proof.Machine

namespace Sys2Proof.Proofs

open Sys2Proof.Machine Sys2Proof.Claims

/-- Settles O54: by induction on the edges the head waits; until the last of them, a full Q keeps all its entries. -/
theorem headResponseIsDelivered : Obligations.HeadResponseIsDelivered :=
  fun _ _ _ hq htakes => run_delivers_head hq rfl htakes

end Sys2Proof.Proofs
end
